-- ==== Sys2Proof/Word.lean ====
section
/-! DEFINITION. The command word and the bit string of the CER core block. -/

namespace Sys2Proof

/-- A host register, a command word, an operand (00_scope.md R7: W = 32). -/
abbrev Word := BitVec 32

/-- A bit string in transmission order, first bit first (00_scope.md R9). -/
abbrev Bits := List Bool

end Sys2Proof
end

