-- ==== Sys2Proof/Config.lean ====
section
/-! DEFINITION. What this hardware fixes (00_scope.md R7) and the values the spec leaves open. -/

namespace Sys2Proof

/-- Largest block length (00_scope.md R7). -/
def Config.nMax : Nat := 4096

/-- Largest value range (00_scope.md R7). -/
def Config.vMax : Nat := 65536

/-- Capacity of BIN and of BOUT in bits (00_scope.md R7). -/
def Config.bitCap : Nat := 2 ^ 20

/-- Capacity of SIN and of SOUT in elements (00_scope.md R7). -/
def Config.seqCap : Nat := 8192

/-- Capacity of the value cache in predictions (00_scope.md R7). -/
def Config.vcCap : Nat := 4096

/-- The constant of the ID register (10_state.md R33). -/
def Config.idWord : Word := 0x43455201#32

/-- FREE VALUE (log 6): ERRINFO of the n-th error whose rule names no info value. -/
opaque Config.freeInfo : Nat → Word

/-- FREE VALUE (log 4): what a read of RES0, RES1, a FIFO count or a debug register returns while BUSY = 1
(70_reset_and_hazards.md R360). -/
opaque Config.midCommandRead : Nat → Word

/-- FREE VALUE (log 5): what a read of a write-only port returns (20_memory.md R61), as a function of the port's offset
alone, because such a read is idempotent (R77). -/
opaque Config.writeOnlyRead : Nat → Word

/-- FREE VALUE (log 7): which of several offending columns an impose reports (43_catalogue.md R218). -/
opaque Config.offenderPick : Nat → Nat

/-- FREE VALUE (log 8): Predict where the spec gives no value: at an x that is no bone and has no bone on one side, or
with a reserved METHOD or IDW distance in the snapshot. It is a function of what 44_spline.md R259 lets it depend on:
N, V, the configuration, the bones and x. -/
opaque Config.freePrediction : Nat → Nat → Word → List (Option Int) → Nat → Int

end Sys2Proof
end

