-- ==== Sys2Proof/Machine/State.lean ====
section
/-! DEFINITION. The state of the CER core block as plain data (10_state.md), its reset, and the reasons a step can stop. -/

namespace Sys2Proof.Machine

/-- SEQ, the state of the command sequencer (10_state.md R21). -/
inductive Seq where
  | idle | busy
  deriving DecidableEq, Repr

/-- The error kinds of STATUS.ERR (10_state.md R25); code 0 is the absence of a kind, 7..15 are never written. -/
inductive ErrKind where
  | parse | exhaustion | domain | integrity | illegalCommand | capacity
  deriving DecidableEq, Repr

/-- STATUS by its fields (10_state.md R24); the reserved bits have no storage. -/
structure Status where
  busy : Bool
  done : Bool
  nochg : Bool
  ovr : Bool
  serr : Bool
  porterr : Bool
  err : Option ErrKind
  deriving DecidableEq, Repr

/-- The location-cache policy LOCPOL of an initialised Spline (10_state.md R32, R36). -/
inductive LocPol where
  | none | nearby | distance
  deriving DecidableEq, Repr

/-- One cached prediction of the value cache (44_spline.md R266). -/
structure VcEntry where
  key : Int
  x : Nat
  value : Int
  deriving DecidableEq, Repr

/-- The Spline and its caches (10_state.md R35, R36). A bone is null or an integer. `loc` and `dist` are the empty list
while absent; `vc` is held in ascending order of (key, x). -/
structure Spline where
  valid : Bool
  n : Nat
  v : Nat
  cfg : Word
  bones : List (Option Int)
  locPol : LocPol
  vcEn : Bool
  loc : List (Option Nat)
  dist : List (Option Nat)
  vc : List VcEntry
  deriving DecidableEq, Repr

/-- One column of the catalogue: the limits pair and the resolved flag (10_state.md R37). -/
structure Column where
  lo : Int
  hi : Int
  rsv : Bool
  deriving DecidableEq, Repr

/-- The Cell Catalogue (10_state.md R37). -/
structure Catalogue where
  valid : Bool
  n : Nat
  v : Nat
  cols : List Column
  deriving DecidableEq, Repr

/-- CER.PHASE (10_state.md R38). -/
inductive Phase where
  | idle | active | done | failed
  deriving DecidableEq, Repr

/-- CER.MODE (10_state.md R38). -/
inductive Mode where
  | encode | decode
  deriving DecidableEq, Repr

/-- CER.PSRC, where a decode reads its press values (10_state.md R38). -/
inductive PressSrc where
  | sin | bin
  deriving DecidableEq, Repr

/-- One entry of the rankings (10_state.md R39). -/
structure RankEntry where
  score : Int
  x : Nat
  y : Int
  deriving DecidableEq, Repr

/-- The CER codec state (10_state.md R38..R40). `rank` is held in ascending order of (score, x, y). -/
structure Cer where
  phase : Phase
  mode : Mode
  psrc : PressSrc
  n : Nat
  v : Nat
  cfgMethod : Word
  cfgCodec : Word
  cfgIotaMax : Word
  plain : List (Option Int)
  press : List Nat
  rank : List RankEntry
  s : Nat
  runIndex : Nat
  elims : Nat
  hits : Nat
  absorbs : Nat
  deriving DecidableEq, Repr

/-- What the outside world does to the block: a host access of `width` bytes at a byte offset of the register window
(20_memory.md R60, R75), or a pulse of the hardware reset input (70_reset_and_hazards.md R351). -/
inductive HostAccess where
  | read (off : BitVec 8) (width : Nat)
  | write (off : BitVec 8) (width : Nat) (value : Word)
  | reset
  deriving DecidableEq, Repr

/-- A host access still to come; `early` says that it is issued while the running command still executes, that is,
without waiting for BUSY = 0 (70_reset_and_hazards.md R360; log 3). -/
structure HostEvent where
  early : Bool
  access : HostAccess
  deriving DecidableEq, Repr

/-- The whole state. `host`, `rdata` and `free` are the model's own fields (log 1, 21): the accesses to come, the word
the last host read returned, and the number of free values taken so far. -/
structure State where
  seq : Seq
  cur : Word
  arg0 : Word
  arg1 : Word
  arg2 : Word
  arg3 : Word
  res0 : Word
  res1 : Word
  status : Status
  errCmd : Word
  errInfo : Word
  errSub : BitVec 8
  cfgN : Word
  cfgV : Word
  cfgMethod : Word
  cfgCodec : Word
  cfgIotaMax : Word
  cfgHaven : Word
  cfgCache : Word
  bin : Bits
  bout : Bits
  sin : List Int
  sout : List Int
  spl : Spline
  cat : Catalogue
  cer : Cer
  host : List HostEvent
  rdata : Word
  free : Nat
  deriving DecidableEq, Repr

/-- Faults: none. Every behaviour of the block, errors included, is reported in registers and leaves a next state
(60_exceptions.md R320), so no step raises a fault. The type has no constructor, which is safe: nothing is hidden in it. -/
inductive Fault where
  deriving DecidableEq, Repr

/-- Refusals. -/
inductive Refusal where
  /-- Raised only by an arm of `exec` whose instruction has no meaning yet; safe: the machine stops. No arm does. -/
  | notModelled (mnemonic : String)
  deriving DecidableEq, Repr

/-- What ERRINFO receives: the value the raising rule names, or a free value where it names none (log 6), or a free
choice among several values the rule allows (log 7). -/
inductive Info where
  | val (n : Int)
  | unstated
  | oneOf (first : Int) (rest : List Int)
  deriving DecidableEq, Repr

/-- One raised error: kind, sub-code and info value (60_exceptions.md R320, R321). -/
structure Err where
  kind : ErrKind
  sub : BitVec 8
  info : Info
  deriving DecidableEq, Repr

/-- STATUS after reset (70_reset_and_hazards.md R350). -/
def Status.reset : Status :=
  { busy := false, done := false, nochg := false, ovr := false, serr := false, porterr := false, err := Option.none }

/-- The Spline after reset (70_reset_and_hazards.md R350). -/
def Spline.reset : Spline :=
  { valid := false, n := 0, v := 0, cfg := 0#32, bones := [], locPol := .none, vcEn := false, loc := [], dist := [],
    vc := [] }

/-- The catalogue after reset (70_reset_and_hazards.md R350). -/
def Catalogue.reset : Catalogue := { valid := false, n := 0, v := 0, cols := [] }

/-- The CER after reset (70_reset_and_hazards.md R350). -/
def Cer.reset : Cer :=
  { phase := .idle, mode := .encode, psrc := .sin, n := 0, v := 0, cfgMethod := 0#32, cfgCodec := 0#32,
    cfgIotaMax := 0#32, plain := [], press := [], rank := [], s := 0, runIndex := 0, elims := 0, hits := 0,
    absorbs := 0 }

/-- The machine right after reset: every value of 70_reset_and_hazards.md R350; no host access to come. -/
def State.reset : State :=
  { seq := .idle, cur := 0#32, arg0 := 0#32, arg1 := 0#32, arg2 := 0#32, arg3 := 0#32, res0 := 0#32, res1 := 0#32,
    status := Status.reset, errCmd := 0#32, errInfo := 0#32, errSub := 0#8, cfgN := 0#32, cfgV := 0#32,
    cfgMethod := 0x00020922#32, cfgCodec := 1#32, cfgIotaMax := 255#32, cfgHaven := 0x100#32, cfgCache := 0#32,
    bin := [], bout := [], sin := [], sout := [], spl := Spline.reset, cat := Catalogue.reset, cer := Cer.reset,
    host := [], rdata := 0#32, free := 0 }

end Sys2Proof.Machine
end

