-- ==== Sys2Proof/Machine/Flags.lean ====
section
/-! DEFINITION. Every STATUS computation: the register's word, the effects of starting, ending and failing a command,
the sticky flags and their write-1-to-clear (10_state.md R24, R25). -/

namespace Sys2Proof.Machine

/-- The code STATUS.ERR holds for an error kind (10_state.md R25). -/
def ErrKind.code (k : ErrKind) : Nat :=
  match k with
  | .parse => 1
  | .exhaustion => 2
  | .domain => 3
  | .integrity => 4
  | .illegalCommand => 5
  | .capacity => 6

/-- STATUS.ERR as a number, 0 for none (10_state.md R25). -/
def errCode (e : Option ErrKind) : Nat :=
  match e with
  | none => 0
  | some k => k.code

/-- STATUS as the host reads it (10_state.md R24); the reserved bits read 0. -/
def statusWord (st : Status) : Word :=
  BitVec.ofNat 32 (st.busy.toNat + 2 * st.done.toNat + 4 * st.nochg.toNat + 8 * st.ovr.toNat + 16 * st.serr.toNat
    + 32 * st.porterr.toNat + 256 * errCode st.err)

/-- STATUS when a command starts (20_memory.md R62). -/
def statusStart (st : Status) : Status := { st with busy := true, done := false, nochg := false, err := none }

/-- STATUS when a command returns (20_memory.md R62). -/
def statusDone (st : Status) : Status := { st with busy := false, done := true }

/-- STATUS when a command signals NoChange (60_exceptions.md R323). -/
def statusNoChange (st : Status) : Status := { st with busy := false, done := true, nochg := true }

/-- STATUS when a command raises an error (60_exceptions.md R320). -/
def statusRaise (k : ErrKind) (st : Status) : Status :=
  { st with busy := false, done := false, nochg := false, serr := true, err := some k }

/-- STATUS.OVR <- 1 (70_reset_and_hazards.md R360). -/
def statusOvr (st : Status) : Status := { st with ovr := true }

/-- STATUS.PORTERR <- 1 (20_memory.md R64..R67, R75). -/
def statusPortErr (st : Status) : Status := { st with porterr := true }

/-- A host write of STATUS: bits 3, 4, 5 of v clear OVR, SERR, PORTERR; all other bits of v are ignored
(20_memory.md R63). -/
def statusW1C (v : Word) (st : Status) : Status :=
  { st with
    ovr := st.ovr && !v.getLsbD 3
    serr := st.serr && !v.getLsbD 4
    porterr := st.porterr && !v.getLsbD 5 }

end Sys2Proof.Machine
end

