-- ==== Sys2Proof/Syntax.lean ====
section
/-! DEFINITION. The whole command set as syntax: one constructor for each row of spec/opcode_table.json. -/

namespace Sys2Proof

/-- The integer codecs, in the order of their IDs 0..13 (30_encoding.md R93). -/
inductive Codec where
  | unary | gamma | delta | fib | trib | enb4 | enb5 | enb6 | enb7 | enb8 | gfib | dfib | giota | diota
  deriving DecidableEq, Repr

/-- The domain adaptation of a UC command (30_encoding.md R94); DOM = 3 is no command. -/
inductive Dom where
  | native | unsigned | signed
  deriving DecidableEq, Repr

/-- One constructor for each row of the opcode table (30_encoding.md R95). A UC row keeps its DOM field as an
operand; CTL.FLUSH keeps CID as its mask m. All other operands are in registers (R92). -/
inductive Instr where
  /-- CTL.NOP, rule R110. -/
  | ctlNop
  /-- CTL.SRESET, rule R111. -/
  | ctlSreset
  /-- CTL.FLUSH, rule R112. -/
  | ctlFlush (m : BitVec 8)
  /-- CTL.CINV, rule R113. -/
  | ctlCinv
  /-- ENC.UNARY, rule R120. -/
  | encUnary (d : Dom)
  /-- ENC.GAMMA, rule R120. -/
  | encGamma (d : Dom)
  /-- ENC.DELTA, rule R120. -/
  | encDelta (d : Dom)
  /-- ENC.FIB, rule R120. -/
  | encFib (d : Dom)
  /-- ENC.TRIB, rule R120. -/
  | encTrib (d : Dom)
  /-- ENC.ENB4, rule R120. -/
  | encEnb4 (d : Dom)
  /-- ENC.ENB5, rule R120. -/
  | encEnb5 (d : Dom)
  /-- ENC.ENB6, rule R120. -/
  | encEnb6 (d : Dom)
  /-- ENC.ENB7, rule R120. -/
  | encEnb7 (d : Dom)
  /-- ENC.ENB8, rule R120. -/
  | encEnb8 (d : Dom)
  /-- ENC.GFIB, rule R120. -/
  | encGfib (d : Dom)
  /-- ENC.DFIB, rule R120. -/
  | encDfib (d : Dom)
  /-- ENC.GIOTA, rule R120. -/
  | encGiota (d : Dom)
  /-- ENC.DIOTA, rule R120. -/
  | encDiota (d : Dom)
  /-- DEC.UNARY, rule R121. -/
  | decUnary (d : Dom)
  /-- DEC.GAMMA, rule R121. -/
  | decGamma (d : Dom)
  /-- DEC.DELTA, rule R121. -/
  | decDelta (d : Dom)
  /-- DEC.FIB, rule R121. -/
  | decFib (d : Dom)
  /-- DEC.TRIB, rule R121. -/
  | decTrib (d : Dom)
  /-- DEC.ENB4, rule R121. -/
  | decEnb4 (d : Dom)
  /-- DEC.ENB5, rule R121. -/
  | decEnb5 (d : Dom)
  /-- DEC.ENB6, rule R121. -/
  | decEnb6 (d : Dom)
  /-- DEC.ENB7, rule R121. -/
  | decEnb7 (d : Dom)
  /-- DEC.ENB8, rule R121. -/
  | decEnb8 (d : Dom)
  /-- DEC.GFIB, rule R121. -/
  | decGfib (d : Dom)
  /-- DEC.DFIB, rule R121. -/
  | decDfib (d : Dom)
  /-- DEC.GIOTA, rule R121. -/
  | decGiota (d : Dom)
  /-- DEC.DIOTA, rule R121. -/
  | decDiota (d : Dom)
  /-- ENCSEQ.UNARY, rule R122. -/
  | encseqUnary (d : Dom)
  /-- ENCSEQ.GAMMA, rule R122. -/
  | encseqGamma (d : Dom)
  /-- ENCSEQ.DELTA, rule R122. -/
  | encseqDelta (d : Dom)
  /-- ENCSEQ.FIB, rule R122. -/
  | encseqFib (d : Dom)
  /-- ENCSEQ.TRIB, rule R122. -/
  | encseqTrib (d : Dom)
  /-- ENCSEQ.ENB4, rule R122. -/
  | encseqEnb4 (d : Dom)
  /-- ENCSEQ.ENB5, rule R122. -/
  | encseqEnb5 (d : Dom)
  /-- ENCSEQ.ENB6, rule R122. -/
  | encseqEnb6 (d : Dom)
  /-- ENCSEQ.ENB7, rule R122. -/
  | encseqEnb7 (d : Dom)
  /-- ENCSEQ.ENB8, rule R122. -/
  | encseqEnb8 (d : Dom)
  /-- ENCSEQ.GFIB, rule R122. -/
  | encseqGfib (d : Dom)
  /-- ENCSEQ.DFIB, rule R122. -/
  | encseqDfib (d : Dom)
  /-- ENCSEQ.GIOTA, rule R122. -/
  | encseqGiota (d : Dom)
  /-- ENCSEQ.DIOTA, rule R122. -/
  | encseqDiota (d : Dom)
  /-- DECSEQ.UNARY, rule R123. -/
  | decseqUnary (d : Dom)
  /-- DECSEQ.GAMMA, rule R123. -/
  | decseqGamma (d : Dom)
  /-- DECSEQ.DELTA, rule R123. -/
  | decseqDelta (d : Dom)
  /-- DECSEQ.FIB, rule R123. -/
  | decseqFib (d : Dom)
  /-- DECSEQ.TRIB, rule R123. -/
  | decseqTrib (d : Dom)
  /-- DECSEQ.ENB4, rule R123. -/
  | decseqEnb4 (d : Dom)
  /-- DECSEQ.ENB5, rule R123. -/
  | decseqEnb5 (d : Dom)
  /-- DECSEQ.ENB6, rule R123. -/
  | decseqEnb6 (d : Dom)
  /-- DECSEQ.ENB7, rule R123. -/
  | decseqEnb7 (d : Dom)
  /-- DECSEQ.ENB8, rule R123. -/
  | decseqEnb8 (d : Dom)
  /-- DECSEQ.GFIB, rule R123. -/
  | decseqGfib (d : Dom)
  /-- DECSEQ.DFIB, rule R123. -/
  | decseqDfib (d : Dom)
  /-- DECSEQ.GIOTA, rule R123. -/
  | decseqGiota (d : Dom)
  /-- DECSEQ.DIOTA, rule R123. -/
  | decseqDiota (d : Dom)
  /-- XF.DELTAE, rule R170. -/
  | xfDeltae
  /-- XF.DELTAD, rule R171. -/
  | xfDeltad
  /-- XF.ZZE, rule R173. -/
  | xfZze
  /-- XF.ZZD, rule R174. -/
  | xfZzd
  /-- XF.FZZE, rule R176. -/
  | xfFzze
  /-- XF.FZZD, rule R177. -/
  | xfFzzd
  /-- XF.HAVENE.UNARY, rule R187. -/
  | xfHaveneUnary
  /-- XF.HAVENE.GAMMA, rule R187. -/
  | xfHaveneGamma
  /-- XF.HAVENE.DELTA, rule R187. -/
  | xfHaveneDelta
  /-- XF.HAVENE.FIB, rule R187. -/
  | xfHaveneFib
  /-- XF.HAVENE.TRIB, rule R187. -/
  | xfHaveneTrib
  /-- XF.HAVENE.ENB4, rule R187. -/
  | xfHaveneEnb4
  /-- XF.HAVENE.ENB5, rule R187. -/
  | xfHaveneEnb5
  /-- XF.HAVENE.ENB6, rule R187. -/
  | xfHaveneEnb6
  /-- XF.HAVENE.ENB7, rule R187. -/
  | xfHaveneEnb7
  /-- XF.HAVENE.ENB8, rule R187. -/
  | xfHaveneEnb8
  /-- XF.HAVENE.GFIB, rule R187. -/
  | xfHaveneGfib
  /-- XF.HAVENE.DFIB, rule R187. -/
  | xfHaveneDfib
  /-- XF.HAVENE.GIOTA, rule R187. -/
  | xfHaveneGiota
  /-- XF.HAVENE.DIOTA, rule R187. -/
  | xfHaveneDiota
  /-- XF.HAVEND.UNARY, rule R188. -/
  | xfHavendUnary
  /-- XF.HAVEND.GAMMA, rule R188. -/
  | xfHavendGamma
  /-- XF.HAVEND.DELTA, rule R188. -/
  | xfHavendDelta
  /-- XF.HAVEND.FIB, rule R188. -/
  | xfHavendFib
  /-- XF.HAVEND.TRIB, rule R188. -/
  | xfHavendTrib
  /-- XF.HAVEND.ENB4, rule R188. -/
  | xfHavendEnb4
  /-- XF.HAVEND.ENB5, rule R188. -/
  | xfHavendEnb5
  /-- XF.HAVEND.ENB6, rule R188. -/
  | xfHavendEnb6
  /-- XF.HAVEND.ENB7, rule R188. -/
  | xfHavendEnb7
  /-- XF.HAVEND.ENB8, rule R188. -/
  | xfHavendEnb8
  /-- XF.HAVEND.GFIB, rule R188. -/
  | xfHavendGfib
  /-- XF.HAVEND.DFIB, rule R188. -/
  | xfHavendDfib
  /-- XF.HAVEND.GIOTA, rule R188. -/
  | xfHavendGiota
  /-- XF.HAVEND.DIOTA, rule R188. -/
  | xfHavendDiota
  /-- XF.TSUME, rule R182. -/
  | xfTsume
  /-- XF.TSUMD, rule R183. -/
  | xfTsumd
  /-- XF.RULERE, rule R192. -/
  | xfRulere
  /-- XF.RULERD, rule R193. -/
  | xfRulerd
  /-- XF.PALE, rule R196. -/
  | xfPale
  /-- XF.PALD, rule R197. -/
  | xfPald
  /-- XF.FLRE, rule R198. -/
  | xfFlre
  /-- XF.FLRD, rule R199. -/
  | xfFlrd
  /-- XF.MEDE, rule R200. -/
  | xfMede
  /-- XF.MEDD, rule R201. -/
  | xfMedd
  /-- CAT.INIT, rule R220. -/
  | catInit
  /-- CAT.COUNT, rule R221. -/
  | catCount
  /-- CAT.STATUS, rule R222. -/
  | catStatus
  /-- CAT.ELIM, rule R223. -/
  | catElim
  /-- CAT.ELIMCOL, rule R224. -/
  | catElimcol
  /-- CAT.IMPMIN, rule R225. -/
  | catImpmin
  /-- CAT.IMPMAX, rule R226. -/
  | catImpmax
  /-- CAT.EXTREME, rule R227. -/
  | catExtreme
  /-- CAT.CLAMP, rule R228. -/
  | catClamp
  /-- CAT.LIMITS, rule R229. -/
  | catLimits
  /-- SPL.INIT, rule R240. -/
  | splInit
  /-- SPL.SET, rule R270. -/
  | splSet
  /-- SPL.PRED, rule R271. -/
  | splPred
  /-- SPL.SURR, rule R272. -/
  | splSurr
  /-- SPL.BONE, rule R275. -/
  | splBone
  /-- SPL.PREDALL, rule R276. -/
  | splPredall
  /-- CER.INIT, rule R298. -/
  | cerInit
  /-- CER.RUN, rule R299. -/
  | cerRun
  /-- CER.BLOCK, rule R300. -/
  | cerBlock
  /-- CER.FILL, rule R301. -/
  | cerFill
  /-- CER.PRESS, rule R302. -/
  | cerPress
  /-- CER.PLAIN, rule R311. -/
  | cerPlain
  /-- CER.ENCBLK, rule R305. -/
  | cerEncblk
  /-- CER.DECBLK, rule R306. -/
  | cerDecblk
  /-- CER.SCORE, rule R288. -/
  | cerScore
  deriving DecidableEq, Repr

end Sys2Proof
end

