-- ==== Sys2Proof/WellFormed.lean ====
section
/-! DEFINITION. Which instructions are well formed: the words the opcode table allows. -/

namespace Sys2Proof

/-- The high half of a CTL.FLUSH mask, m[7:4], must be 0 (40_control.md R112). -/
def flushMaskOk (m : BitVec 8) : Bool := m.extractLsb' 4 4 == 0#4

/-- An instruction the opcode table has a word for. Every other check of 30_encoding.md R91 (codec ID, DOM, unused
fields) is already in the type. -/
def Instr.wf (i : Instr) : Bool :=
  match i with
  | .ctlNop => true
  | .ctlSreset => true
  | .ctlFlush m => flushMaskOk m
  | .ctlCinv => true
  | .encUnary _ => true
  | .encGamma _ => true
  | .encDelta _ => true
  | .encFib _ => true
  | .encTrib _ => true
  | .encEnb4 _ => true
  | .encEnb5 _ => true
  | .encEnb6 _ => true
  | .encEnb7 _ => true
  | .encEnb8 _ => true
  | .encGfib _ => true
  | .encDfib _ => true
  | .encGiota _ => true
  | .encDiota _ => true
  | .decUnary _ => true
  | .decGamma _ => true
  | .decDelta _ => true
  | .decFib _ => true
  | .decTrib _ => true
  | .decEnb4 _ => true
  | .decEnb5 _ => true
  | .decEnb6 _ => true
  | .decEnb7 _ => true
  | .decEnb8 _ => true
  | .decGfib _ => true
  | .decDfib _ => true
  | .decGiota _ => true
  | .decDiota _ => true
  | .encseqUnary _ => true
  | .encseqGamma _ => true
  | .encseqDelta _ => true
  | .encseqFib _ => true
  | .encseqTrib _ => true
  | .encseqEnb4 _ => true
  | .encseqEnb5 _ => true
  | .encseqEnb6 _ => true
  | .encseqEnb7 _ => true
  | .encseqEnb8 _ => true
  | .encseqGfib _ => true
  | .encseqDfib _ => true
  | .encseqGiota _ => true
  | .encseqDiota _ => true
  | .decseqUnary _ => true
  | .decseqGamma _ => true
  | .decseqDelta _ => true
  | .decseqFib _ => true
  | .decseqTrib _ => true
  | .decseqEnb4 _ => true
  | .decseqEnb5 _ => true
  | .decseqEnb6 _ => true
  | .decseqEnb7 _ => true
  | .decseqEnb8 _ => true
  | .decseqGfib _ => true
  | .decseqDfib _ => true
  | .decseqGiota _ => true
  | .decseqDiota _ => true
  | .xfDeltae => true
  | .xfDeltad => true
  | .xfZze => true
  | .xfZzd => true
  | .xfFzze => true
  | .xfFzzd => true
  | .xfHaveneUnary => true
  | .xfHaveneGamma => true
  | .xfHaveneDelta => true
  | .xfHaveneFib => true
  | .xfHaveneTrib => true
  | .xfHaveneEnb4 => true
  | .xfHaveneEnb5 => true
  | .xfHaveneEnb6 => true
  | .xfHaveneEnb7 => true
  | .xfHaveneEnb8 => true
  | .xfHaveneGfib => true
  | .xfHaveneDfib => true
  | .xfHaveneGiota => true
  | .xfHaveneDiota => true
  | .xfHavendUnary => true
  | .xfHavendGamma => true
  | .xfHavendDelta => true
  | .xfHavendFib => true
  | .xfHavendTrib => true
  | .xfHavendEnb4 => true
  | .xfHavendEnb5 => true
  | .xfHavendEnb6 => true
  | .xfHavendEnb7 => true
  | .xfHavendEnb8 => true
  | .xfHavendGfib => true
  | .xfHavendDfib => true
  | .xfHavendGiota => true
  | .xfHavendDiota => true
  | .xfTsume => true
  | .xfTsumd => true
  | .xfRulere => true
  | .xfRulerd => true
  | .xfPale => true
  | .xfPald => true
  | .xfFlre => true
  | .xfFlrd => true
  | .xfMede => true
  | .xfMedd => true
  | .catInit => true
  | .catCount => true
  | .catStatus => true
  | .catElim => true
  | .catElimcol => true
  | .catImpmin => true
  | .catImpmax => true
  | .catExtreme => true
  | .catClamp => true
  | .catLimits => true
  | .splInit => true
  | .splSet => true
  | .splPred => true
  | .splSurr => true
  | .splBone => true
  | .splPredall => true
  | .cerInit => true
  | .cerRun => true
  | .cerBlock => true
  | .cerFill => true
  | .cerPress => true
  | .cerPlain => true
  | .cerEncblk => true
  | .cerDecblk => true
  | .cerScore => true

end Sys2Proof
end

