-- ==== Sys2Proof/Decode.lean ====
section
/-! DEFINITION. The command decoder, total and rejecting by name, and after it the encoder (30_encoding.md §1..§5). -/

namespace Sys2Proof

/-- Why a command word is no command, in the order the decoder checks (30_encoding.md R91, 60_exceptions.md R321). -/
inductive DecodeError where
  /-- CUR[31:18] is not 0: sub-code 0x50. -/
  | reservedBits
  /-- OPC is not in the opcode map: sub-code 0x51. -/
  | reservedOpcode
  /-- CID or DOM is not 0 on a command that does not use it: sub-code 0x52. -/
  | unusedField
  /-- CID > 13 as a codec ID: sub-code 0x53. -/
  | reservedCodec
  /-- DOM = 3: sub-code 0x54. -/
  | reservedDomain
  deriving DecidableEq, Repr

/-- The sub-code each decoding failure reports (60_exceptions.md R321). -/
def DecodeError.sub (e : DecodeError) : BitVec 8 :=
  match e with
  | .reservedBits => 0x50#8
  | .reservedOpcode => 0x51#8
  | .unusedField => 0x52#8
  | .reservedCodec => 0x53#8
  | .reservedDomain => 0x54#8

/-- The codec of a codec ID (30_encoding.md R93); 14..255 are reserved. -/
def codecOfId (cid : Nat) : Option Codec :=
  match cid with
  | 0 => some .unary
  | 1 => some .gamma
  | 2 => some .delta
  | 3 => some .fib
  | 4 => some .trib
  | 5 => some .enb4
  | 6 => some .enb5
  | 7 => some .enb6
  | 8 => some .enb7
  | 9 => some .enb8
  | 10 => some .gfib
  | 11 => some .dfib
  | 12 => some .giota
  | 13 => some .diota
  | _ => none

/-- The codec ID of a codec (30_encoding.md R93). -/
def Codec.id (c : Codec) : Nat :=
  match c with
  | .unary => 0
  | .gamma => 1
  | .delta => 2
  | .fib => 3
  | .trib => 4
  | .enb4 => 5
  | .enb5 => 6
  | .enb6 => 7
  | .enb7 => 8
  | .enb8 => 9
  | .gfib => 10
  | .dfib => 11
  | .giota => 12
  | .diota => 13

/-- The domain a DOM field selects (30_encoding.md R94); 3 is reserved. -/
def domOfField (d : Nat) : Option Dom :=
  match d with
  | 0 => some .native
  | 1 => some .unsigned
  | 2 => some .signed
  | _ => none

/-- The DOM field of a domain (30_encoding.md R94). -/
def Dom.field (d : Dom) : Nat :=
  match d with
  | .native => 0
  | .unsigned => 1
  | .signed => 2

/-- The fourteen rows of ENC, OPC 0x10, by codec (30_encoding.md R95). -/
def encInstr (c : Codec) (d : Dom) : Instr :=
  match c with
  | .unary => .encUnary d
  | .gamma => .encGamma d
  | .delta => .encDelta d
  | .fib => .encFib d
  | .trib => .encTrib d
  | .enb4 => .encEnb4 d
  | .enb5 => .encEnb5 d
  | .enb6 => .encEnb6 d
  | .enb7 => .encEnb7 d
  | .enb8 => .encEnb8 d
  | .gfib => .encGfib d
  | .dfib => .encDfib d
  | .giota => .encGiota d
  | .diota => .encDiota d

/-- The fourteen rows of DEC, OPC 0x11, by codec (30_encoding.md R95). -/
def decInstr (c : Codec) (d : Dom) : Instr :=
  match c with
  | .unary => .decUnary d
  | .gamma => .decGamma d
  | .delta => .decDelta d
  | .fib => .decFib d
  | .trib => .decTrib d
  | .enb4 => .decEnb4 d
  | .enb5 => .decEnb5 d
  | .enb6 => .decEnb6 d
  | .enb7 => .decEnb7 d
  | .enb8 => .decEnb8 d
  | .gfib => .decGfib d
  | .dfib => .decDfib d
  | .giota => .decGiota d
  | .diota => .decDiota d

/-- The fourteen rows of ENCSEQ, OPC 0x12, by codec (30_encoding.md R95). -/
def encseqInstr (c : Codec) (d : Dom) : Instr :=
  match c with
  | .unary => .encseqUnary d
  | .gamma => .encseqGamma d
  | .delta => .encseqDelta d
  | .fib => .encseqFib d
  | .trib => .encseqTrib d
  | .enb4 => .encseqEnb4 d
  | .enb5 => .encseqEnb5 d
  | .enb6 => .encseqEnb6 d
  | .enb7 => .encseqEnb7 d
  | .enb8 => .encseqEnb8 d
  | .gfib => .encseqGfib d
  | .dfib => .encseqDfib d
  | .giota => .encseqGiota d
  | .diota => .encseqDiota d

/-- The fourteen rows of DECSEQ, OPC 0x13, by codec (30_encoding.md R95). -/
def decseqInstr (c : Codec) (d : Dom) : Instr :=
  match c with
  | .unary => .decseqUnary d
  | .gamma => .decseqGamma d
  | .delta => .decseqDelta d
  | .fib => .decseqFib d
  | .trib => .decseqTrib d
  | .enb4 => .decseqEnb4 d
  | .enb5 => .decseqEnb5 d
  | .enb6 => .decseqEnb6 d
  | .enb7 => .decseqEnb7 d
  | .enb8 => .decseqEnb8 d
  | .gfib => .decseqGfib d
  | .dfib => .decseqDfib d
  | .giota => .decseqGiota d
  | .diota => .decseqDiota d

/-- The fourteen rows of XF.HAVENE, OPC 0x26, by codec (30_encoding.md R95). -/
def haveneInstr (c : Codec) : Instr :=
  match c with
  | .unary => .xfHaveneUnary
  | .gamma => .xfHaveneGamma
  | .delta => .xfHaveneDelta
  | .fib => .xfHaveneFib
  | .trib => .xfHaveneTrib
  | .enb4 => .xfHaveneEnb4
  | .enb5 => .xfHaveneEnb5
  | .enb6 => .xfHaveneEnb6
  | .enb7 => .xfHaveneEnb7
  | .enb8 => .xfHaveneEnb8
  | .gfib => .xfHaveneGfib
  | .dfib => .xfHaveneDfib
  | .giota => .xfHaveneGiota
  | .diota => .xfHaveneDiota

/-- The fourteen rows of XF.HAVEND, OPC 0x27, by codec (30_encoding.md R95). -/
def havendInstr (c : Codec) : Instr :=
  match c with
  | .unary => .xfHavendUnary
  | .gamma => .xfHavendGamma
  | .delta => .xfHavendDelta
  | .fib => .xfHavendFib
  | .trib => .xfHavendTrib
  | .enb4 => .xfHavendEnb4
  | .enb5 => .xfHavendEnb5
  | .enb6 => .xfHavendEnb6
  | .enb7 => .xfHavendEnb7
  | .enb8 => .xfHavendEnb8
  | .gfib => .xfHavendGfib
  | .dfib => .xfHavendDfib
  | .giota => .xfHavendGiota
  | .diota => .xfHavendDiota

/-- How a command uses the fields CID and DOM (30_encoding.md R95, columns CID and DOM). -/
inductive OpShape where
  /-- Uses neither: CID = 0 and DOM = 0. -/
  | plain (i : Instr)
  /-- CID is the FIFO mask of CTL.FLUSH, DOM = 0. -/
  | mask (mk : BitVec 8 → Instr)
  /-- CID is a codec ID and DOM a domain: the UC commands. -/
  | codecDom (mk : Codec → Dom → Instr)
  /-- CID is a codec ID, DOM = 0: the haven-bucket commands. -/
  | codec (mk : Codec → Instr)

/-- The opcode map (30_encoding.md R95); none for a reserved OPC (R96). -/
def opShape (opc : Nat) : Option OpShape :=
  match opc with
  | 0x00 => some (.plain .ctlNop)
  | 0x01 => some (.plain .ctlSreset)
  | 0x02 => some (.mask .ctlFlush)
  | 0x03 => some (.plain .ctlCinv)
  | 0x10 => some (.codecDom encInstr)
  | 0x11 => some (.codecDom decInstr)
  | 0x12 => some (.codecDom encseqInstr)
  | 0x13 => some (.codecDom decseqInstr)
  | 0x20 => some (.plain .xfDeltae)
  | 0x21 => some (.plain .xfDeltad)
  | 0x22 => some (.plain .xfZze)
  | 0x23 => some (.plain .xfZzd)
  | 0x24 => some (.plain .xfFzze)
  | 0x25 => some (.plain .xfFzzd)
  | 0x26 => some (.codec haveneInstr)
  | 0x27 => some (.codec havendInstr)
  | 0x28 => some (.plain .xfTsume)
  | 0x29 => some (.plain .xfTsumd)
  | 0x2A => some (.plain .xfRulere)
  | 0x2B => some (.plain .xfRulerd)
  | 0x2C => some (.plain .xfPale)
  | 0x2D => some (.plain .xfPald)
  | 0x2E => some (.plain .xfFlre)
  | 0x2F => some (.plain .xfFlrd)
  | 0x30 => some (.plain .xfMede)
  | 0x31 => some (.plain .xfMedd)
  | 0x40 => some (.plain .catInit)
  | 0x41 => some (.plain .catCount)
  | 0x42 => some (.plain .catStatus)
  | 0x43 => some (.plain .catElim)
  | 0x44 => some (.plain .catElimcol)
  | 0x45 => some (.plain .catImpmin)
  | 0x46 => some (.plain .catImpmax)
  | 0x47 => some (.plain .catExtreme)
  | 0x48 => some (.plain .catClamp)
  | 0x49 => some (.plain .catLimits)
  | 0x50 => some (.plain .splInit)
  | 0x51 => some (.plain .splSet)
  | 0x52 => some (.plain .splPred)
  | 0x53 => some (.plain .splSurr)
  | 0x54 => some (.plain .splBone)
  | 0x55 => some (.plain .splPredall)
  | 0x60 => some (.plain .cerInit)
  | 0x61 => some (.plain .cerRun)
  | 0x62 => some (.plain .cerBlock)
  | 0x63 => some (.plain .cerFill)
  | 0x64 => some (.plain .cerPress)
  | 0x65 => some (.plain .cerPlain)
  | 0x66 => some (.plain .cerEncblk)
  | 0x67 => some (.plain .cerDecblk)
  | 0x68 => some (.plain .cerScore)
  | _ => none

/-- Field OPC, bits 7:0 (30_encoding.md R91). -/
def opcField (w : Word) : Nat := (w.extractLsb' 0 8).toNat

/-- Field CID, bits 15:8 (30_encoding.md R91). -/
def cidField (w : Word) : BitVec 8 := w.extractLsb' 8 8

/-- Field DOM, bits 17:16 (30_encoding.md R91). -/
def domField (w : Word) : Nat := (w.extractLsb' 16 2).toNat

/-- Field RSV, bits 31:18 (30_encoding.md R91). -/
def rsvField (w : Word) : Nat := (w.extractLsb' 18 14).toNat

/-- Checks 3 and 4 of 30_encoding.md R91 for a command of a known shape. -/
def decodeShape (sh : OpShape) (cid : BitVec 8) (dom : Nat) : Except DecodeError Instr :=
  match sh with
  | .plain i => if cid.toNat ≠ 0 ∨ dom ≠ 0 then .error .unusedField else .ok i
  | .mask mk => if dom ≠ 0 then .error .unusedField else .ok (mk cid)
  | .codecDom mk =>
    match codecOfId cid.toNat with
    | none => .error .reservedCodec
    | some c =>
      match domOfField dom with
      | none => .error .reservedDomain
      | some d => .ok (mk c d)
  | .codec mk =>
    if dom ≠ 0 then .error .unusedField
    else
      match codecOfId cid.toNat with
      | none => .error .reservedCodec
      | some c => .ok (mk c)

/-- The decoder: the checks of 30_encoding.md R91 in their order; total on any word. -/
def decode (w : Word) : Except DecodeError Instr :=
  if rsvField w ≠ 0 then .error .reservedBits
  else
    match opShape (opcField w) with
    | none => .error .reservedOpcode
    | some sh => decodeShape sh (cidField w) (domField w)

/-- The instruction the decoder reads from a table row's word: one 32-bit word, numbered as the table numbers it. -/
def decodeTableWord (nbits w : Nat) : Option Instr :=
  match decode (BitVec.ofNat 32 (w % 2 ^ nbits)) with
  | .ok i => some i
  | .error _ => none

/-- A command word from its fields, RSV = 0 (30_encoding.md R91). -/
def commandWord (opc cid dom : Nat) : Word := BitVec.ofNat 32 (opc + 256 * cid + 65536 * dom)

/-- The encoder: the command word of each instruction (30_encoding.md R93..R95). -/
def encode (i : Instr) : Word :=
  match i with
  | .ctlNop => commandWord 0x00 0 0
  | .ctlSreset => commandWord 0x01 0 0
  | .ctlFlush m => commandWord 0x02 m.toNat 0
  | .ctlCinv => commandWord 0x03 0 0
  | .encUnary d => commandWord 0x10 0 d.field
  | .encGamma d => commandWord 0x10 1 d.field
  | .encDelta d => commandWord 0x10 2 d.field
  | .encFib d => commandWord 0x10 3 d.field
  | .encTrib d => commandWord 0x10 4 d.field
  | .encEnb4 d => commandWord 0x10 5 d.field
  | .encEnb5 d => commandWord 0x10 6 d.field
  | .encEnb6 d => commandWord 0x10 7 d.field
  | .encEnb7 d => commandWord 0x10 8 d.field
  | .encEnb8 d => commandWord 0x10 9 d.field
  | .encGfib d => commandWord 0x10 10 d.field
  | .encDfib d => commandWord 0x10 11 d.field
  | .encGiota d => commandWord 0x10 12 d.field
  | .encDiota d => commandWord 0x10 13 d.field
  | .decUnary d => commandWord 0x11 0 d.field
  | .decGamma d => commandWord 0x11 1 d.field
  | .decDelta d => commandWord 0x11 2 d.field
  | .decFib d => commandWord 0x11 3 d.field
  | .decTrib d => commandWord 0x11 4 d.field
  | .decEnb4 d => commandWord 0x11 5 d.field
  | .decEnb5 d => commandWord 0x11 6 d.field
  | .decEnb6 d => commandWord 0x11 7 d.field
  | .decEnb7 d => commandWord 0x11 8 d.field
  | .decEnb8 d => commandWord 0x11 9 d.field
  | .decGfib d => commandWord 0x11 10 d.field
  | .decDfib d => commandWord 0x11 11 d.field
  | .decGiota d => commandWord 0x11 12 d.field
  | .decDiota d => commandWord 0x11 13 d.field
  | .encseqUnary d => commandWord 0x12 0 d.field
  | .encseqGamma d => commandWord 0x12 1 d.field
  | .encseqDelta d => commandWord 0x12 2 d.field
  | .encseqFib d => commandWord 0x12 3 d.field
  | .encseqTrib d => commandWord 0x12 4 d.field
  | .encseqEnb4 d => commandWord 0x12 5 d.field
  | .encseqEnb5 d => commandWord 0x12 6 d.field
  | .encseqEnb6 d => commandWord 0x12 7 d.field
  | .encseqEnb7 d => commandWord 0x12 8 d.field
  | .encseqEnb8 d => commandWord 0x12 9 d.field
  | .encseqGfib d => commandWord 0x12 10 d.field
  | .encseqDfib d => commandWord 0x12 11 d.field
  | .encseqGiota d => commandWord 0x12 12 d.field
  | .encseqDiota d => commandWord 0x12 13 d.field
  | .decseqUnary d => commandWord 0x13 0 d.field
  | .decseqGamma d => commandWord 0x13 1 d.field
  | .decseqDelta d => commandWord 0x13 2 d.field
  | .decseqFib d => commandWord 0x13 3 d.field
  | .decseqTrib d => commandWord 0x13 4 d.field
  | .decseqEnb4 d => commandWord 0x13 5 d.field
  | .decseqEnb5 d => commandWord 0x13 6 d.field
  | .decseqEnb6 d => commandWord 0x13 7 d.field
  | .decseqEnb7 d => commandWord 0x13 8 d.field
  | .decseqEnb8 d => commandWord 0x13 9 d.field
  | .decseqGfib d => commandWord 0x13 10 d.field
  | .decseqDfib d => commandWord 0x13 11 d.field
  | .decseqGiota d => commandWord 0x13 12 d.field
  | .decseqDiota d => commandWord 0x13 13 d.field
  | .xfDeltae => commandWord 0x20 0 0
  | .xfDeltad => commandWord 0x21 0 0
  | .xfZze => commandWord 0x22 0 0
  | .xfZzd => commandWord 0x23 0 0
  | .xfFzze => commandWord 0x24 0 0
  | .xfFzzd => commandWord 0x25 0 0
  | .xfHaveneUnary => commandWord 0x26 0 0
  | .xfHaveneGamma => commandWord 0x26 1 0
  | .xfHaveneDelta => commandWord 0x26 2 0
  | .xfHaveneFib => commandWord 0x26 3 0
  | .xfHaveneTrib => commandWord 0x26 4 0
  | .xfHaveneEnb4 => commandWord 0x26 5 0
  | .xfHaveneEnb5 => commandWord 0x26 6 0
  | .xfHaveneEnb6 => commandWord 0x26 7 0
  | .xfHaveneEnb7 => commandWord 0x26 8 0
  | .xfHaveneEnb8 => commandWord 0x26 9 0
  | .xfHaveneGfib => commandWord 0x26 10 0
  | .xfHaveneDfib => commandWord 0x26 11 0
  | .xfHaveneGiota => commandWord 0x26 12 0
  | .xfHaveneDiota => commandWord 0x26 13 0
  | .xfHavendUnary => commandWord 0x27 0 0
  | .xfHavendGamma => commandWord 0x27 1 0
  | .xfHavendDelta => commandWord 0x27 2 0
  | .xfHavendFib => commandWord 0x27 3 0
  | .xfHavendTrib => commandWord 0x27 4 0
  | .xfHavendEnb4 => commandWord 0x27 5 0
  | .xfHavendEnb5 => commandWord 0x27 6 0
  | .xfHavendEnb6 => commandWord 0x27 7 0
  | .xfHavendEnb7 => commandWord 0x27 8 0
  | .xfHavendEnb8 => commandWord 0x27 9 0
  | .xfHavendGfib => commandWord 0x27 10 0
  | .xfHavendDfib => commandWord 0x27 11 0
  | .xfHavendGiota => commandWord 0x27 12 0
  | .xfHavendDiota => commandWord 0x27 13 0
  | .xfTsume => commandWord 0x28 0 0
  | .xfTsumd => commandWord 0x29 0 0
  | .xfRulere => commandWord 0x2A 0 0
  | .xfRulerd => commandWord 0x2B 0 0
  | .xfPale => commandWord 0x2C 0 0
  | .xfPald => commandWord 0x2D 0 0
  | .xfFlre => commandWord 0x2E 0 0
  | .xfFlrd => commandWord 0x2F 0 0
  | .xfMede => commandWord 0x30 0 0
  | .xfMedd => commandWord 0x31 0 0
  | .catInit => commandWord 0x40 0 0
  | .catCount => commandWord 0x41 0 0
  | .catStatus => commandWord 0x42 0 0
  | .catElim => commandWord 0x43 0 0
  | .catElimcol => commandWord 0x44 0 0
  | .catImpmin => commandWord 0x45 0 0
  | .catImpmax => commandWord 0x46 0 0
  | .catExtreme => commandWord 0x47 0 0
  | .catClamp => commandWord 0x48 0 0
  | .catLimits => commandWord 0x49 0 0
  | .splInit => commandWord 0x50 0 0
  | .splSet => commandWord 0x51 0 0
  | .splPred => commandWord 0x52 0 0
  | .splSurr => commandWord 0x53 0 0
  | .splBone => commandWord 0x54 0 0
  | .splPredall => commandWord 0x55 0 0
  | .cerInit => commandWord 0x60 0 0
  | .cerRun => commandWord 0x61 0 0
  | .cerBlock => commandWord 0x62 0 0
  | .cerFill => commandWord 0x63 0 0
  | .cerPress => commandWord 0x64 0 0
  | .cerPlain => commandWord 0x65 0 0
  | .cerEncblk => commandWord 0x66 0 0
  | .cerDecblk => commandWord 0x67 0 0
  | .cerScore => commandWord 0x68 0 0

end Sys2Proof
end

