-- ==== Sys2Proof/Machine/Operands.lean ====
section
/-! DEFINITION. Every operand form: the ARG registers as unsigned or signed integers (30_encoding.md R92), and the fields
of the configuration registers (10_state.md R27..R32). -/

namespace Sys2Proof.Machine

/-- zext_32 (30_encoding.md R92). -/
def zext (w : Word) : Nat := w.toNat

/-- sext_32 (30_encoding.md R92). -/
def sext (w : Word) : Int := w.toInt

/-- The 32-bit pattern of an integer: two's complement, modulo 2^32 (10_state.md R23, 60_exceptions.md R320). -/
def pattern (n : Int) : Word := BitVec.ofInt 32 n

/-- CFG_METHOD.METHOD, bits 2:0 (10_state.md R28). -/
def methodField (w : Word) : Nat := (w.extractLsb' 0 3).toNat

/-- CFG_METHOD.NFILT, bits 6:4 (10_state.md R28). -/
def nfiltField (w : Word) : Nat := (w.extractLsb' 4 3).toNat

/-- CFG_METHOD.FILT slot i, bits 9+2i : 8+2i (10_state.md R28). -/
def filtSlot (w : Word) (i : Nat) : Nat := (w.extractLsb' (8 + 2 * i) 2).toNat

/-- CFG_METHOD.IDWP, bits 19:16 (10_state.md R28). -/
def idwpField (w : Word) : Nat := (w.extractLsb' 16 4).toNat

/-- CFG_METHOD.IDWD, bits 21:20 (10_state.md R28). -/
def idwdField (w : Word) : Nat := (w.extractLsb' 20 2).toNat

/-- CFG_METHOD.ENDPT, bits 23:22 (10_state.md R28). -/
def endptField (w : Word) : Nat := (w.extractLsb' 22 2).toNat

/-- CFG_CODEC.RCID, bits 7:0 (10_state.md R29). -/
def rcidField (w : Word) : Nat := (w.extractLsb' 0 8).toNat

/-- CFG_HAVEN.HB0, bits 7:0 (10_state.md R31). -/
def hb0Field (w : Word) : Nat := (w.extractLsb' 0 8).toNat

/-- CFG_HAVEN.BFN, bits 9:8 (10_state.md R31). -/
def bfnField (w : Word) : Nat := (w.extractLsb' 8 2).toNat

/-- CFG_CACHE.LOCPOL, bits 1:0 (10_state.md R32). -/
def locpolField (w : Word) : Nat := (w.extractLsb' 0 2).toNat

/-- CFG_CACHE.VCEN, bit 2 (10_state.md R32). -/
def vcenField (w : Word) : Bool := w.getLsbD 2

/-- The writable bits of CFG_METHOD: bits 3, 7 and 31:24 read 0 (10_state.md R28, 20_memory.md R69). -/
def cfgMethodMask : Word := 0x00FFFF77#32

/-- The writable bits of CFG_CODEC: bits 31:8 read 0 (10_state.md R29). -/
def cfgCodecMask : Word := 0x000000FF#32

/-- The writable bits of CFG_HAVEN: bits 31:10 read 0 (10_state.md R31). -/
def cfgHavenMask : Word := 0x000003FF#32

/-- The writable bits of CFG_CACHE: bits 31:3 read 0 (10_state.md R32). -/
def cfgCacheMask : Word := 0x00000007#32

/-- CFG_METHOD with METHOD replaced by the header's interpolation_id (45_cer.md R306). -/
def withMethod (w : Word) (id : Nat) : Word := (w &&& 0xFFFFFFF8#32) ||| BitVec.ofNat 32 (id % 8)

/-- The location-cache policy of a LOCPOL value; CheckCache has refused 3 (10_state.md R32). -/
def locPolOf (n : Nat) : LocPol :=
  match n with
  | 1 => .nearby
  | 2 => .distance
  | _ => .none

/-- The value a UC.ENC command encodes: ARG0.u for DOM 0 and 1, ARG0.s for DOM 2 (41_universal_codes.md R120). -/
def encOperand (d : Dom) (s : State) : Int :=
  match d with
  | .native => (zext s.arg0 : Int)
  | .unsigned => (zext s.arg0 : Int)
  | .signed => sext s.arg0

end Sys2Proof.Machine
end

