-- ==== Sys2Proof/Machine/Ops.lean ====
section
/-! DEFINITION. The operations every command shares: raising an error and ending a command (60_exceptions.md R320..R324,
20_memory.md R62), and the stream primitives (20_memory.md R70..R74). There is no memory to read or write. -/

namespace Sys2Proof.Machine

/-! Errors by kind, as the rules raise them. -/

def parseErr (sub : BitVec 8) (info : Info) : Err := { kind := .parse, sub := sub, info := info }
def exhaustionErr (sub : BitVec 8) (info : Info) : Err := { kind := .exhaustion, sub := sub, info := info }
def domainErr (sub : BitVec 8) (info : Info) : Err := { kind := .domain, sub := sub, info := info }
def integrityErr (sub : BitVec 8) (info : Info) : Err := { kind := .integrity, sub := sub, info := info }
def illegalErr (sub : BitVec 8) (info : Info) : Err := { kind := .illegalCommand, sub := sub, info := info }
def capacityErr (sub : BitVec 8) (info : Info) : Err := { kind := .capacity, sub := sub, info := info }

/-- `raise IntegrityError(CUR)` with a sub-code: the info is the command word. -/
def integrityCur (sub : BitVec 8) (s : State) : Err := integrityErr sub (.val (zext s.cur))

/-- A check of a command's rule: pass, or raise. -/
def require (p : Prop) [Decidable p] (e : Err) : Except Err Unit := if p then .ok () else .error e

/-- The word ERRINFO receives: `info mod 2^32` (60_exceptions.md R320), or a free value (log 6, 7). -/
def infoWord (i : Info) (free : Nat) : Word :=
  match i with
  | .val n => pattern n
  | .unstated => Config.freeInfo free
  | .oneOf a [] => pattern a
  | .oneOf a (b :: rest) => pattern ((a :: b :: rest).getD (Config.offenderPick free % (rest.length + 2)) a)

/-- How many free values an info value takes. -/
def infoFree (i : Info) : Nat :=
  match i with
  | .val _ => 0
  | .unstated => 1
  | .oneOf _ [] => 0
  | .oneOf _ (_ :: _) => 1

/-- TAKING AN ERROR, the block's one exception (60_exceptions.md R320): STATUS.ERR, SERR, DONE, NOCHG, ERRCMD, ERRINFO,
ERRSUB, BUSY and SEQ. The state given is the one 60_exceptions.md R324 keeps. There is no vector and no saved pc, and
nothing returns from it: the next command is whatever the host writes next (R331). -/
def raiseError (e : Err) (s : State) : State :=
  { s with
    seq := .idle
    status := statusRaise e.kind s.status
    errCmd := s.cur
    errInfo := infoWord e.info s.free
    errSub := e.sub
    free := s.free + infoFree e.info }

/-- The end of a command that returns (20_memory.md R62). -/
def complete (s : State) : State := { s with seq := .idle, status := statusDone s.status }

/-- The end of a command that signals NoChange (60_exceptions.md R323). -/
def completeNoChange (s : State) : State := { s with seq := .idle, status := statusNoChange s.status }

/-- The end of a command whose checks precede its changes: it returns in a new state, or raises and keeps `s`
(60_exceptions.md R324). -/
def endCommand (s : State) (r : Except Err State) : Host.Outcome State Fault Refusal :=
  match r with
  | .ok t => .next (complete t)
  | .error e => .next (raiseError e s)

/-! Stream primitives. -/

/-- BitRead: the first bit of BIN and the rest, or none for EOS (20_memory.md R70). -/
def bitRead (b : Bits) : Option (Bool × Bits) :=
  match b with
  | [] => none
  | c :: rest => some (c, rest)

/-- BitWrite: append one bit to BOUT, or raise CapacityError 0x60 (20_memory.md R71). -/
def bitWrite (bout : Bits) (c : Bool) : Except Err Bits :=
  if bout.length = Config.bitCap then .error (capacityErr 0x60#8 (.val Config.bitCap)) else .ok (bout ++ [c])

/-- BitWrite for every bit of a string in order. It raises iff some BitWrite raises: BOUT is restored then
(20_memory.md R74), so no bit of the string remains. `len` is the string's length, given apart so that a string that
cannot fit need not be built (log 20). -/
def bitsWrite (bout : Bits) (len : Nat) (w : Bits) : Except Err Bits :=
  if Config.bitCap < bout.length + len ∧ bout.length ≤ Config.bitCap then
    .error (capacityErr 0x60#8 (.val Config.bitCap))
  else .ok (bout ++ w)

/-- SeqPop: the first element of SIN and the rest, or none for EOS (20_memory.md R72). -/
def seqPop (q : List Int) : Option (Int × List Int) :=
  match q with
  | [] => none
  | e :: rest => some (e, rest)

/-- The element range of SIN and SOUT (10_state.md R34). -/
def inElemRange (v : Int) : Prop := -2 ^ 31 ≤ v ∧ v < 2 ^ 31

/-- SeqPush: append to SOUT, or raise CapacityError 0x61, or DomainError 0x62 (20_memory.md R73). -/
def seqPush (sout : List Int) (v : Int) : Except Err (List Int) :=
  if sout.length = Config.seqCap then .error (capacityErr 0x61#8 (.val Config.seqCap))
  else if -2 ^ 31 ≤ v ∧ v < 2 ^ 31 then .ok (sout ++ [v])
  else .error (domainErr 0x62#8 (.val v))

/-- SeqPush for each element of a list in order. -/
def seqPushAll (sout : List Int) (vs : List Int) : Except Err (List Int) := vs.foldlM seqPush sout

end Sys2Proof.Machine
end

