-- ==== Sys2Proof/Machine/Catalogue.lean ====
section
/-! DEFINITION. The Cell Catalogue: its functions, which the run processor shares, and the CAT commands
(43_catalogue.md R210..R232). -/

namespace Sys2Proof.Machine

/-! Columns. -/

/-- A fresh column: all V cells UNKNOWN (43_catalogue.md R220). -/
def freshColumn (v : Nat) : Column := { lo := -1, hi := v, rsv := false }

/-- A column resolved to a value (43_catalogue.md R214). -/
def resolvedColumn (v : Int) : Column := { lo := v - 1, hi := v + 1, rsv := true }

/-- unknown_count of a column (43_catalogue.md R212). -/
def unknownCount (c : Column) : Int := max 0 (c.hi - c.lo - 1)

/-- A cell of the column is UNKNOWN (43_catalogue.md R211). -/
def isUnknown (c : Column) (y : Int) : Bool := decide (c.lo < y ∧ y < c.hi)

/-- Column x. Every command checks x < CAT.N first, so the default is never met while |columns| = N. -/
def columnAt (cat : Catalogue) (x : Nat) : Column := cat.cols.getD x (resolvedColumn 0)

/-- The catalogue with column x replaced. -/
def setColumn (cat : Catalogue) (x : Nat) (c : Column) : Catalogue := { cat with cols := cat.cols.set x c }

/-- A catalogue of N fresh columns (43_catalogue.md R220). -/
def freshCatalogue (n v : Nat) : Catalogue :=
  { valid := true, n := n, v := v, cols := List.replicate n (freshColumn v) }

/-! Catalogue functions. -/

/-- Eliminate(x, y): the new catalogue and `critical` (43_catalogue.md R216). -/
def eliminate (cat : Catalogue) (x : Nat) (y : Int) : Except Err (Catalogue × Bool) := do
  let c := columnAt cat x
  require (c.rsv = false) (integrityErr 0x23#8 (.val x))
  require (unknownCount c ≠ 1) (integrityErr 0x22#8 (.val x))
  if y = c.lo + 1 then
    let c' := { c with lo := y }
    pure (setColumn cat x c', unknownCount c' == 1)
  else if y = c.hi - 1 then
    let c' := { c with hi := y }
    pure (setColumn cat x c', unknownCount c' == 1)
  else .error (integrityErr 0x21#8 (.val y))

/-- EliminateColumn(x, v) (43_catalogue.md R217). -/
def eliminateColumn (cat : Catalogue) (x : Nat) (v : Int) : Except Err Catalogue := do
  let c := columnAt cat x
  require (c.rsv = false) (integrityErr 0x23#8 (.val x))
  require (c.lo < v ∧ v < c.hi) (integrityErr 0x25#8 (.val v))
  pure (setColumn cat x (resolvedColumn v))

/-- The tightening of ImposeMinimum(y) on one column (43_catalogue.md R218). -/
def imposeMinColumn (y : Int) (c : Column) : Column := if c.rsv then c else { c with lo := max c.lo (y - 1) }

/-- The tightening of ImposeMaximum(y) on one column (43_catalogue.md R218). -/
def imposeMaxColumn (y : Int) (c : Column) : Column := if c.rsv then c else { c with hi := min c.hi (y + 1) }

/-- The unresolved columns that would keep hi - lo ≤ 4 (43_catalogue.md R218). -/
def imposeOffenders (cols : List Column) : List Int :=
  (cols.zipIdx.filter (fun t => !t.1.rsv && decide (t.1.hi - t.1.lo ≤ 4))).map (fun t => (t.2 : Int))

/-- ImposeMinimum or ImposeMaximum with the tightening g: all columns at once, or IntegrityError 0x24 that names some
offending column, and nothing changes (43_catalogue.md R218; log 7). -/
def impose (g : Column → Column) (cat : Catalogue) : Except Err Catalogue :=
  match imposeOffenders (cat.cols.map g) with
  | [] => .ok { cat with cols := cat.cols.map g }
  | x :: rest => .error (integrityErr 0x24#8 (.oneOf x rest))

/-- The frontier cells of one column on the sides asked for (43_catalogue.md R213, R219). -/
def columnFrontier (low high : Bool) (c : Column) (x : Nat) : List (Nat × Int) :=
  if c.rsv then []
  else
    (if low then [(x, c.lo + 1)] else [])
    ++ (if high && !(low && decide (c.hi - 1 = c.lo + 1)) then [(x, c.hi - 1)] else [])

/-- GenExtreme(low, high): ascending x, low side before high side, resolved columns skipped (43_catalogue.md R219). -/
def genExtreme (low high : Bool) (cat : Catalogue) : List (Nat × Int) :=
  cat.cols.zipIdx.flatMap (fun t => columnFrontier low high t.1 t.2)

/-! Checks. -/

/-- The geometry check 2 ≤ N ≤ NMAX, 2 ≤ V ≤ VMAX; N is named if it fails, else V (43_catalogue.md R220; log 9). -/
def requireGeometry (n v : Nat) : Except Err Unit := do
  require (2 ≤ n ∧ n ≤ Config.nMax) (domainErr 0x01#8 (.val n))
  require (2 ≤ v ∧ v ≤ Config.vMax) (domainErr 0x01#8 (.val v))

/-- The refusal of a mutating SPL or CAT command while a block is ACTIVE (43_catalogue.md R230, 44_spline.md R273). -/
def requireNotActive (s : State) : Except Err Unit := require (s.cer.phase ≠ .active) (integrityCur 0x40#8 s)

/-- CAT.VALID = 1 (43_catalogue.md R215). -/
def requireCatValid (s : State) : Except Err Unit := require (s.cat.valid = true) (integrityCur 0x20#8 s)

/-- The checks of 43_catalogue.md R215 for x only. -/
def catCheckX (s : State) (x : Nat) : Except Err Unit := do
  requireCatValid s
  require (x < s.cat.n) (domainErr 0x02#8 (.val x))

/-- The checks of 43_catalogue.md R215 for a cell (x, y). -/
def catCheckXY (s : State) (x y : Nat) : Except Err Unit := do
  catCheckX s x
  require (y < s.cat.v) (domainErr 0x03#8 (.val y))

/-! Commands. -/

/-- CAT.INIT (43_catalogue.md R220). -/
def execCatInit (s : State) : Host.Outcome State Fault Refusal :=
  endCommand s (do
    requireNotActive s
    requireGeometry (zext s.cfgN) (zext s.cfgV)
    pure { s with cat := freshCatalogue (zext s.cfgN) (zext s.cfgV) })

/-- CAT.COUNT (43_catalogue.md R221). -/
def execCatCount (s : State) : Host.Outcome State Fault Refusal :=
  endCommand s (do
    catCheckX s (zext s.arg0)
    pure { s with res0 := pattern (unknownCount (columnAt s.cat (zext s.arg0))) })

/-- CAT.STATUS (43_catalogue.md R222). -/
def execCatStatus (s : State) : Host.Outcome State Fault Refusal :=
  endCommand s (do
    catCheckXY s (zext s.arg0) (zext s.arg1)
    let c := columnAt s.cat (zext s.arg0)
    let unknown := isUnknown c (zext s.arg1)
    pure { s with
      res0 := if unknown then 0#32 else 1#32
      res1 := if unknown && unknownCount c == 1 then 1#32 else 0#32 })

/-- CAT.ELIM (43_catalogue.md R223). -/
def execCatElim (s : State) : Host.Outcome State Fault Refusal :=
  endCommand s (do
    requireNotActive s
    catCheckXY s (zext s.arg0) (zext s.arg1)
    let (cat, critical) ← eliminate s.cat (zext s.arg0) (zext s.arg1)
    pure { s with cat := cat, res0 := if critical then 1#32 else 0#32 })

/-- CAT.ELIMCOL (43_catalogue.md R224). -/
def execCatElimcol (s : State) : Host.Outcome State Fault Refusal :=
  endCommand s (do
    requireNotActive s
    catCheckXY s (zext s.arg0) (zext s.arg1)
    let cat ← eliminateColumn s.cat (zext s.arg0) (zext s.arg1)
    pure { s with cat := cat })

/-- The body of CAT.IMPMIN and CAT.IMPMAX (43_catalogue.md R225, R226). -/
def catImpose (g : Column → Column) (s : State) : Except Err State := do
  requireNotActive s
  requireCatValid s
  let cat ← impose g s.cat
  pure { s with cat := cat }

/-- CAT.IMPMIN (43_catalogue.md R225). -/
def execCatImpmin (s : State) : Host.Outcome State Fault Refusal :=
  endCommand s (catImpose (imposeMinColumn (zext s.arg0)) s)

/-- CAT.IMPMAX (43_catalogue.md R226). -/
def execCatImpmax (s : State) : Host.Outcome State Fault Refusal :=
  endCommand s (catImpose (imposeMaxColumn (zext s.arg0)) s)

/-- The elements CAT.EXTREME pushes: x then y of each cell (43_catalogue.md R227). -/
def cellElements (cells : List (Nat × Int)) : List Int := cells.flatMap (fun t => [(t.1 : Int), t.2])

/-- CAT.EXTREME (43_catalogue.md R227). -/
def execCatExtreme (s : State) : Host.Outcome State Fault Refusal :=
  endCommand s (do
    requireCatValid s
    let cells := genExtreme (s.arg0.getLsbD 0) (s.arg0.getLsbD 1) s.cat
    let sout ← seqPushAll s.sout (cellElements cells)
    pure { s with sout := sout, res0 := BitVec.ofNat 32 cells.length })

/-- CAT.CLAMP; a y already inside signals NoChange (43_catalogue.md R228). -/
def execCatClamp (s : State) : Host.Outcome State Fault Refusal :=
  match catCheckX s (zext s.arg0) with
  | .error e => .next (raiseError e s)
  | .ok _ =>
    let c := columnAt s.cat (zext s.arg0)
    let y := sext s.arg1
    if y ≤ c.lo then .next (complete { s with res0 := pattern (c.lo + 1) })
    else if c.hi ≤ y then .next (complete { s with res0 := pattern (c.hi - 1) })
    else .next (completeNoChange { s with res0 := pattern y })

/-- CAT.LIMITS (43_catalogue.md R229). -/
def execCatLimits (s : State) : Host.Outcome State Fault Refusal :=
  endCommand s (do
    catCheckX s (zext s.arg0)
    let c := columnAt s.cat (zext s.arg0)
    pure { s with
      res0 := pattern c.lo
      res1 := pattern c.hi ||| (if c.rsv then 0x80000000#32 else 0#32) })

end Sys2Proof.Machine
end

