-- ==== Sys2Proof/Machine/Codes.lean ====
section
/-! DEFINITION. The universal integer codes as pure functions: codewords and reading procedures (41_universal_codes.md
R124..R139), and the domain adaptation. -/

namespace Sys2Proof.Machine

/-! Bit fields. -/

/-- bin_w(v), most significant bit first; of a larger v it is low_w(v) (00_scope.md R9). -/
def binMsb (w v : Nat) : Bits :=
  match w with
  | 0 => []
  | w + 1 => v.testBit w :: binMsb w v

/-- bits(n) for n ≥ 1 (00_scope.md R10). -/
def bitLen (n : Nat) : Nat := Nat.log2 n + 1

/-- ⌈log₂ m⌉ for m ≥ 1: the least c with 2^c ≥ m (00_scope.md R10). -/
def ceilLog2 (m : Nat) : Nat := if m ≤ 1 then 0 else Nat.log2 (m - 1) + 1

/-- Why a reading procedure gives no value: EOS before its first bit (a clean boundary), EOS later (a truncated
codeword, 41_universal_codes.md R125), or a prefix or value beyond the Iota bound (R136, R137). -/
inductive Stop where
  | cleanEos
  | cut
  | bad (v : Nat)
  deriving DecidableEq, Repr

/-- Read w bits, most significant first, into v; an EOS is inside a codeword or field. -/
def readInto (w v : Nat) (b : Bits) : Except Stop (Nat × Bits) :=
  match w with
  | 0 => .ok (v, b)
  | w + 1 =>
    match bitRead b with
    | none => .error .cut
    | some (c, rest) => readInto w (2 * v + c.toNat) rest

/-- Read a w-bit prefix, w ≥ 1; an EOS at its first bit is a clean boundary (41_universal_codes.md R136). -/
def readPrefix (w : Nat) (b : Bits) : Except Stop (Nat × Bits) :=
  match b with
  | [] => .error .cleanEos
  | c :: rest => readInto w 0 (c :: rest)

/-! Unary, γ, δ. -/

/-- Enc of unary (41_universal_codes.md R130). -/
def encUnary (n : Nat) : Bits := List.replicate n false ++ [true]

/-- The zero counter of Dec of unary after z zeros (41_universal_codes.md R130). -/
def decUnaryFrom (z : Nat) (b : Bits) : Except Stop (Nat × Bits) :=
  match b with
  | [] => if z = 0 then .error .cleanEos else .error .cut
  | true :: rest => .ok (z, rest)
  | false :: rest => decUnaryFrom (z + 1) rest

/-- Dec of unary (41_universal_codes.md R130). -/
def decUnary (b : Bits) : Except Stop (Nat × Bits) := decUnaryFrom 0 b

/-- Enc of Elias gamma (41_universal_codes.md R131). -/
def encGamma (n : Nat) : Bits := encUnary (Nat.log2 n) ++ binMsb (Nat.log2 n) n

/-- Dec of Elias gamma (41_universal_codes.md R131). -/
def decGamma (b : Bits) : Except Stop (Nat × Bits) := do
  let (p, rest) ← decUnary b
  readInto p 1 rest

/-- Enc of Elias delta (41_universal_codes.md R132). -/
def encDelta (n : Nat) : Bits := encGamma (bitLen n) ++ binMsb (bitLen n - 1) n

/-- Dec of Elias delta (41_universal_codes.md R132). -/
def decDelta (b : Bits) : Except Stop (Nat × Bits) := do
  let (l, rest) ← decGamma b
  readInto (l - 1) 1 rest

/-! Enbonacci codes of order k. -/

/-- The place values a_(n-1), …, a_0 of order k, latest first (41_universal_codes.md R133). -/
def enbPlaces (k n : Nat) : List Nat :=
  match n with
  | 0 => []
  | i + 1 =>
    let earlier := enbPlaces k i
    (if i < k then 2 ^ i else (earlier.take k).sum) :: earlier

/-- The place value a_i of order k (41_universal_codes.md R133). -/
def enbPlace (k i : Nat) : Nat := (enbPlaces k (i + 1)).headD 0

/-- The offset T_m of order k: T_1 = 1, T_m = 2 + a_0 + … + a_(m-3) (41_universal_codes.md R134). -/
def enbOffset (k m : Nat) : Nat := if m ≤ 1 then 1 else 2 + (enbPlaces k (m - 2)).sum

/-- The length class of v: the m ≥ m0 with T_m ≤ v < T_(m+1), found upward (41_universal_codes.md R135). -/
def enbClassFrom (k v m fuel : Nat) : Nat :=
  match fuel with
  | 0 => m
  | fuel + 1 => if v < enbOffset k (m + 1) then m else enbClassFrom k v (m + 1) fuel

/-- The length class of v ≥ 2. Each class holds at least one value, so v steps suffice. -/
def enbClass (k v : Nat) : Nat := enbClassFrom k v 2 v

/-- Zrep_n(r), first bit first, found greedily from bit n-1 down (41_universal_codes.md R133). -/
def enbZrep (k n r : Nat) : Bits :=
  match n with
  | 0 => []
  | i + 1 => if enbPlace k i ≤ r then enbZrep k i (r - enbPlace k i) ++ [true] else enbZrep k i r ++ [false]

/-- Enc of the enbonacci code of order k (41_universal_codes.md R135). -/
def encEnb (k v : Nat) : Bits :=
  if v ≤ 1 then List.replicate k true
  else
    let m := enbClass k v
    enbZrep k (m - 2) (v - enbOffset k m) ++ false :: List.replicate k true

/-- Σ u_i·a_i over a string u whose first bit has index i (41_universal_codes.md R135). -/
def enbValueFrom (k i : Nat) (u : Bits) : Nat :=
  match u with
  | [] => 0
  | c :: rest => (if c then enbPlace k i else 0) + enbValueFrom k (i + 1) rest

/-- Read up to the first run of k ones: `acc` holds the bits read, latest first, the last `ones` of them ones. -/
def enbScan (k : Nat) (acc : Bits) (ones : Nat) (b : Bits) : Except Stop (Bits × Bits) :=
  match b with
  | [] => if acc.isEmpty then .error .cleanEos else .error .cut
  | c :: rest =>
    let ones' := if c then ones + 1 else 0
    if ones' = k then .ok ((c :: acc).reverse, rest) else enbScan k (c :: acc) ones' rest

/-- The value of a whole enbonacci codeword c (41_universal_codes.md R135). -/
def enbWordValue (k : Nat) (c : Bits) : Nat :=
  if c.length = k then 1
  else
    let u := c.take (c.length - (k + 1))
    enbOffset k (u.length + 2) + enbValueFrom k 0 u

/-- Dec of the enbonacci code of order k (41_universal_codes.md R135). -/
def decEnb (k : Nat) (b : Bits) : Except Stop (Nat × Bits) := do
  let (c, rest) ← enbScan k [] 0 b
  pure (enbWordValue k c, rest)

/-! γ-Fib, δ-Fib. -/

/-- Enc of Elias γ-Fib (41_universal_codes.md R138). -/
def encGFib (n : Nat) : Bits := encEnb 2 (Nat.log2 n + 1) ++ binMsb (Nat.log2 n) n

/-- Dec of Elias γ-Fib (41_universal_codes.md R138). -/
def decGFib (b : Bits) : Except Stop (Nat × Bits) := do
  let (f, rest) ← decEnb 2 b
  readInto (f - 1) 1 rest

/-- Enc of Elias δ-Fib (41_universal_codes.md R139). -/
def encDFib (n : Nat) : Bits :=
  encEnb 2 (Nat.log2 (bitLen n) + 1) ++ binMsb (Nat.log2 (bitLen n)) (bitLen n) ++ binMsb (bitLen n - 1) n

/-- Dec of Elias δ-Fib (41_universal_codes.md R139). -/
def decDFib (b : Bits) : Except Stop (Nat × Bits) := do
  let (f, rest) ← decEnb 2 b
  let (l, rest) ← readInto (f - 1) 1 rest
  readInto (l - 1) 1 rest

/-! γ-Iota, δ-Iota with bound m. -/

/-- The prefix width w = ⌈log₂⌈log₂ M⌉⌉ (41_universal_codes.md R136). -/
def iotaWidth (m : Nat) : Nat := ceilLog2 (ceilLog2 m)

/-- Enc of Elias γ-Iota (41_universal_codes.md R136). -/
def encGIota (m n : Nat) : Bits := binMsb (iotaWidth m) (Nat.log2 n) ++ binMsb (Nat.log2 n) n

/-- Dec of Elias γ-Iota (41_universal_codes.md R136). -/
def decGIota (m : Nat) (b : Bits) : Except Stop (Nat × Bits) := do
  let (p, rest) ← readPrefix (iotaWidth m) b
  if Nat.log2 m < p then .error (.bad p)
  else
    let (v, rest) ← readInto p 1 rest
    if m < v then .error (.bad v) else .ok (v, rest)

/-- Enc of Elias δ-Iota (41_universal_codes.md R137). -/
def encDIota (m n : Nat) : Bits :=
  binMsb (iotaWidth m) (Nat.log2 (bitLen n)) ++ binMsb (Nat.log2 (bitLen n)) (bitLen n) ++ binMsb (bitLen n - 1) n

/-- Dec of Elias δ-Iota (41_universal_codes.md R137). -/
def decDIota (m : Nat) (b : Bits) : Except Stop (Nat × Bits) := do
  let (q, rest) ← readPrefix (iotaWidth m) b
  if Nat.log2 (bitLen m) < q then .error (.bad q)
  else
    let (l, rest) ← readInto q 1 rest
    if bitLen m < l then .error (.bad l)
    else
      let (v, rest) ← readInto (l - 1) 1 rest
      if m < v then .error (.bad v) else .ok (v, rest)

/-! The codecs by ID. -/

/-- 0 ∈ domain (41_universal_codes.md R129): only unary. -/
def zeroSafe (c : Codec) : Bool :=
  match c with
  | .unary => true
  | _ => false

/-- The codecs with a bound M (30_encoding.md R93). -/
def isIota (c : Codec) : Bool :=
  match c with
  | .giota => true
  | .diota => true
  | _ => false

/-- The declared domain of codec c with bound m (41_universal_codes.md R129, R136, R137). -/
def inDomain (c : Codec) (m : Nat) (v : Int) : Bool :=
  match c with
  | .unary => decide (0 ≤ v)
  | .giota => decide (1 ≤ v ∧ v ≤ m ∧ Nat.log2 v.toNat < 2 ^ iotaWidth m)
  | .diota => decide (1 ≤ v ∧ v ≤ m)
  | _ => decide (1 ≤ v)

/-- Enc_c(n) (41_universal_codes.md R130..R139); m is the Iota bound. -/
def encCode (c : Codec) (m n : Nat) : Bits :=
  match c with
  | .unary => encUnary n
  | .gamma => encGamma n
  | .delta => encDelta n
  | .fib => encEnb 2 n
  | .trib => encEnb 3 n
  | .enb4 => encEnb 4 n
  | .enb5 => encEnb 5 n
  | .enb6 => encEnb 6 n
  | .enb7 => encEnb 7 n
  | .enb8 => encEnb 8 n
  | .gfib => encGFib n
  | .dfib => encDFib n
  | .giota => encGIota m n
  | .diota => encDIota m n

/-- |Enc_c(n)|, for unary without building the codeword (log 20). -/
def codeLen (c : Codec) (m n : Nat) : Nat :=
  match c with
  | .unary => n + 1
  | c => (encCode c m n).length

/-- Dec_c on a bit string: the value and the bits left (41_universal_codes.md R130..R139). -/
def decCode (c : Codec) (m : Nat) (b : Bits) : Except Stop (Nat × Bits) :=
  match c with
  | .unary => decUnary b
  | .gamma => decGamma b
  | .delta => decDelta b
  | .fib => decEnb 2 b
  | .trib => decEnb 3 b
  | .enb4 => decEnb 4 b
  | .enb5 => decEnb 5 b
  | .enb6 => decEnb 6 b
  | .enb7 => decEnb 7 b
  | .enb8 => decEnb 8 b
  | .gfib => decGFib b
  | .dfib => decDFib b
  | .giota => decGIota m b
  | .diota => decDIota m b

/-- The error of a reading procedure that started at the bits b, where EOS at a clean boundary raises `clean`
(41_universal_codes.md R125, R136; 60_exceptions.md R325). The info of a truncation is the number of bits read so far. -/
def stopErr (clean : Err) (b : Bits) (st : Stop) : Err :=
  match st with
  | .cleanEos => clean
  | .cut => parseErr 0x10#8 (.val b.length)
  | .bad v => parseErr 0x13#8 (.val v)

/-- The check M ≥ 3 of the Iota codecs (41_universal_codes.md R136, R137), made before any data is read (log 11). -/
def requireBound (c : Codec) (m : Nat) : Except Err Unit :=
  require (isIota c = false ∨ 3 ≤ m) (domainErr 0x31#8 (.val m))

/-! Domain adaptation. -/

/-- ZigZag (42_transforms.md R172). -/
def zigZag (n : Int) : Int := if 0 ≤ n then 2 * n else -2 * n - 1

/-- UnZigZag, for u ≥ 0 (42_transforms.md R172). -/
def unZigZag (u : Int) : Int := if u % 2 = 0 then u / 2 else -((u + 1) / 2)

/-- AdaptIn(1, a) (41_universal_codes.md R124). -/
def adaptIn1 (c : Codec) (a : Int) : Int := a + (if zeroSafe c then 0 else 1)

/-- AdaptOut(1, r) (41_universal_codes.md R124). -/
def adaptOut1 (c : Codec) (r : Nat) : Int := (r : Int) - (if zeroSafe c then 0 else 1)

/-- AdaptIn(DOM, a) (41_universal_codes.md R124). -/
def adaptIn (d : Dom) (c : Codec) (a : Int) : Int :=
  match d with
  | .native => a
  | .unsigned => adaptIn1 c a
  | .signed => adaptIn1 c (zigZag a)

/-- AdaptOut(DOM, r) (41_universal_codes.md R124). -/
def adaptOut (d : Dom) (c : Codec) (r : Nat) : Int :=
  match d with
  | .native => r
  | .unsigned => adaptOut1 c r
  | .signed => unZigZag (adaptOut1 c r)

/-- Encode one adapted value to the end of a bit sequence: the domain checks raise DomainError 0x30 with `info`, then
the codeword is written (41_universal_codes.md R120, R122). -/
def encodeOne (c : Codec) (m : Nat) (d : Dom) (a : Int) (info : Int) (bout : Bits) : Except Err Bits := do
  require (d = .signed ∨ 0 ≤ a) (domainErr 0x30#8 (.val info))
  require (inDomain c m (adaptIn d c a) = true) (domainErr 0x30#8 (.val info))
  bitsWrite bout (codeLen c m (adaptIn d c a).toNat) (encCode c m (adaptIn d c a).toNat)

end Sys2Proof.Machine
end

