-- ==== Sys2Proof/Machine/Numeric.lean ====
section
/-! DEFINITION. The exact numbers an interpolation yields (00_scope.md R13, 44_spline.md R247): rationals, and the
sinusoidal values, which are compared with rationals exactly and so rounded and clipped exactly. -/

namespace Sys2Proof.Machine

/-- The value of an interpolation: a rational, or y0 + (y1 - y0)·½(1 - cos(π·a/h)) (44_spline.md R247). -/
inductive Num where
  | rat (q : Rat)
  | sine (y0 y1 : Int) (a h : Nat)
  deriving DecidableEq, Repr

/-- The sign changes and the last term of a run of the scaled Chebyshev recurrence W_(k+1) = 2p·W_k - q²·W_(k-1),
zeros skipped: W_k = q^k·U_k(p/q). `prev` and `w` are the last two terms, `sg` the last sign met. -/
def chebChanges (p q : Int) (prev w : Int) (sg : Bool) (changes : Nat) (k : Nat) : Nat × Int :=
  match k with
  | 0 => (changes, w)
  | k + 1 =>
    let next := 2 * p * w - q * q * prev
    if next = 0 then chebChanges p q w next sg changes k
    else
      let sg' := decide (0 < next)
      chebChanges p q w next sg' (if sg' = sg then changes else changes + 1) k

/-- cos(π·a/h) compared with a rational c, exactly, for 0 < a < h (log 26). The roots of U_(h-1) are cos(π·j/h) for
j = 1..h-1, falling in j, and the sign changes of U_0(c), …, U_(h-1)(c) count the roots above c. -/
def cosCompare (a h : Nat) (c : Rat) : Ordering :=
  if 1 ≤ c then .lt
  else if c ≤ -1 then .gt
  else
    let r := chebChanges c.num c.den 0 1 true 0 (h - 1)
    if a ≤ r.1 then .gt else if r.2 = 0 ∧ a = r.1 + 1 then .eq else .lt

/-- A value of an interpolation compared with a rational, exactly (44_spline.md R247). -/
def Num.compare (r : Num) (q : Rat) : Ordering :=
  match r with
  | .rat p => if p < q then .lt else if q < p then .gt else .eq
  | .sine y0 y1 a h =>
    if y1 = y0 then (if (y0 : Rat) < q then .lt else if q < (y0 : Rat) then .gt else .eq)
    else
      let o := cosCompare a h (1 - 2 * (q - y0) / ((y1 - y0 : Int) : Rat))
      if y0 < y1 then o.swap else o

/-- The largest integer n in [lo, hi] with n ≤ r, found by halving, for lo ≤ r. -/
def Num.floorIn (r : Num) (lo hi : Int) (fuel : Nat) : Int :=
  match fuel with
  | 0 => lo
  | fuel + 1 =>
    if hi ≤ lo then lo
    else
      let mid := (lo + hi + 1) / 2
      if r.compare mid = .lt then r.floorIn lo (mid - 1) fuel else r.floorIn mid hi fuel

/-- ⌊r⌋. A sinusoidal value lies between its two end values. -/
def Num.floor (r : Num) : Int :=
  match r with
  | .rat q => q.floor
  | .sine y0 y1 a h =>
    (Num.sine y0 y1 a h).floorIn (min y0 y1) (max y0 y1) (Nat.log2 (max y0 y1 - min y0 y1).toNat + 1)

/-- Round(r): nearest integer, an exact half to the even integer (44_spline.md R255). -/
def Num.round (r : Num) : Int :=
  let f := r.floor
  match r.compare ((f : Rat) + 1 / 2) with
  | .lt => f
  | .gt => f + 1
  | .eq => if f % 2 = 0 then f else f + 1

/-- min(max(r, lo), hi) (44_spline.md R253, R254). -/
def Num.clip (r : Num) (lo hi : Rat) : Num :=
  let r' := if r.compare lo = .lt then Num.rat lo else r
  if r'.compare hi = .gt then Num.rat hi else r'

/-- FinalInt(r): r if r is an integer, else Round(r), which is one function since Round leaves integers (44_spline.md
R258). -/
def Num.finalInt (r : Num) : Int := r.round

/-- Round of a rational (44_spline.md R255), as the ruler transforms use it. -/
def roundHalfEven (q : Rat) : Int := (Num.rat q).round

end Sys2Proof.Machine
end

