-- ==== Sys2Proof/Machine/SplineOps.lean ====
section
/-! DEFINITION. The Spline: bones, interpolation, output filters, caches, and the SPL commands (44_spline.md
R240..R276). -/

namespace Sys2Proof.Machine

/-! Bones and surroundings. -/

/-- BONE[x], null outside the array (10_state.md R35). -/
def boneAt (bones : List (Option Int)) (x : Nat) : Option Int := bones.getD x none

/-- The bones as points (x, y), ascending x. -/
def bonePoints (bones : List (Option Int)) : List (Nat × Int) :=
  bones.zipIdx.filterMap (fun t => t.1.map (fun y => (t.2, y)))

/-- The four slots [L2, L1, R1, R2] of a query point (44_spline.md R242). -/
structure Surroundings where
  l2 : Option (Nat × Int)
  l1 : Option (Nat × Int)
  r1 : Option (Nat × Int)
  r2 : Option (Nat × Int)
  deriving DecidableEq, Repr

/-- Surroundings(x): up to two bones strictly on each side, nearest first inside (44_spline.md R242). -/
def surroundings (bones : List (Option Int)) (x : Nat) : Surroundings :=
  let left := ((bonePoints bones).filter (fun p => decide (p.1 < x))).reverse
  let right := (bonePoints bones).filter (fun p => decide (x < p.1))
  { l2 := left[1]?, l1 := left[0]?, r1 := right[0]?, r2 := right[1]? }

/-- The slots in the order L2, L1, R1, R2. -/
def slots (sr : Surroundings) : List (Option (Nat × Int)) := [sr.l2, sr.l1, sr.r1, sr.r2]

/-! Interpolation methods, for a query x between L1 and R1. -/

/-- METHOD 1: ties go left (44_spline.md R245). -/
def nearestValue (l1 r1 : Nat × Int) (x : Nat) : Int := if 2 * (x - l1.1) ≤ r1.1 - l1.1 then l1.2 else r1.2

/-- t = (x - L1.x) / (R1.x - L1.x) (44_spline.md R243). -/
def tParam (l1 r1 : Nat × Int) (x : Nat) : Rat := ((x : Rat) - l1.1) / ((r1.1 : Rat) - l1.1)

/-- METHOD 2 (44_spline.md R246). -/
def linearValue (l1 r1 : Nat × Int) (x : Nat) : Rat := l1.2 + ((r1.2 : Rat) - l1.2) * tParam l1 r1 x

/-- METHOD 3, the exact real value (44_spline.md R247). -/
def sineValue (l1 r1 : Nat × Int) (x : Nat) : Num := .sine l1.2 r1.2 (x - l1.1) (r1.1 - l1.1)

/-- The slope of the segment from p to q (44_spline.md R248). -/
def segSlope (p q : Nat × Int) : Rat := ((q.2 : Rat) - p.2) / ((q.1 : Rat) - p.1)

/-- The existing slopes dL, dM, dR of the neighbourhood (44_spline.md R248, R256). -/
def segSlopes (sr : Surroundings) (l1 r1 : Nat × Int) : List Rat :=
  (match sr.l2 with
    | none => []
    | some l2 => [segSlope l2 l1])
  ++ [segSlope l1 r1]
  ++ (match sr.r2 with
    | none => []
    | some r2 => [segSlope r1 r2])

/-- The Hermite slope at L1 (44_spline.md R248). -/
def leftSlope (sr : Surroundings) (l1 r1 : Nat × Int) : Rat :=
  match sr.l2 with
  | none => segSlope l1 r1
  | some l2 => (segSlope l2 l1 + segSlope l1 r1) / 2

/-- The Hermite slope at R1 (44_spline.md R248). -/
def rightSlope (sr : Surroundings) (l1 r1 : Nat × Int) : Rat :=
  match sr.r2 with
  | none => segSlope l1 r1
  | some r2 => (segSlope l1 r1 + segSlope r1 r2) / 2

/-- The effect of the monotonic filter on a slope, given all segment slopes (44_spline.md R256). -/
def monotonicSlope (ds : List Rat) (m : Rat) : Rat :=
  if ds.all (fun d => decide (0 < d)) then max m 0 else if ds.all (fun d => decide (d < 0)) then min m 0 else m

/-- The cubic Hermite value at t on an interval of length h with end values and slopes (44_spline.md R249). -/
def hermiteAt (t h y0 y1 m0 m1 : Rat) : Rat :=
  (2 * t ^ 3 - 3 * t ^ 2 + 1) * y0 + (t ^ 3 - 2 * t ^ 2 + t) * h * m0
    + (-2 * t ^ 3 + 3 * t ^ 2) * y1 + (t ^ 3 - t ^ 2) * h * m1

/-- METHOD 4 with or without the monotonic filter (44_spline.md R248, R249, R256). -/
def hermiteValue (mono : Bool) (sr : Surroundings) (l1 r1 : Nat × Int) (x : Nat) : Rat :=
  let ds := segSlopes sr l1 r1
  let fix := fun m => if mono then monotonicSlope ds m else m
  hermiteAt (tParam l1 r1 x) ((r1.1 : Rat) - l1.1) l1.2 r1.2 (fix (leftSlope sr l1 r1)) (fix (rightSlope sr l1 r1))

/-- |x - x_i|, the IDW distance for IDWD 0 and 1 (44_spline.md R251). -/
def absDist (x xi : Nat) : Nat := (x - xi) + (xi - x)

/-- METHOD 5 with power p over all non-null slots (44_spline.md R250). -/
def idwValue (p : Nat) (sr : Surroundings) (x : Nat) : Rat :=
  let pts := (slots sr).filterMap id
  (pts.map (fun q => (q.2 : Rat) / ((absDist x q.1 : Rat) ^ p))).sum
    / (pts.map (fun q => 1 / ((absDist x q.1 : Rat) ^ p))).sum

/-! Output filters and prediction. -/

/-- The filter codes of slots 0 .. NFILT - 1, in declared order (44_spline.md R252). -/
def filterChain (cfg : Word) : List Nat := (List.range (nfiltField cfg)).map (filtSlot cfg)

/-- Whether the monotonic filter stands anywhere in the chain (44_spline.md R256). -/
def hasMonotonic (cfg : Word) : Bool := (filterChain cfg).contains 3

/-- One output filter on a value: 0 span_clip, 1 global_clip, 2 round, 3 monotonic, which acts on the slopes
(44_spline.md R253..R256). -/
def applyFilter (v : Nat) (l1 r1 : Nat × Int) (r : Num) (code : Nat) : Num :=
  match code with
  | 0 => r.clip (min l1.2 r1.2 : Int) (max l1.2 r1.2 : Int)
  | 1 => r.clip 0 ((v : Rat) - 1)
  | 2 => .rat r.round
  | _ => r

/-- The interpolated value at a non-bone x; none where the method is reserved (44_spline.md R244..R251). -/
def methodValue (cfg : Word) (sr : Surroundings) (l1 r1 : Nat × Int) (x : Nat) : Option Num :=
  match methodField cfg with
  | 0 => some (.rat l1.2)
  | 1 => some (.rat (nearestValue l1 r1 x))
  | 2 => some (.rat (linearValue l1 r1 x))
  | 3 => some (sineValue l1 r1 x)
  | 4 => some (.rat (hermiteValue (hasMonotonic cfg) sr l1 r1 x))
  | 5 => if idwdField cfg < 2 then some (.rat (idwValue (idwpField cfg) sr x)) else none
  | _ => none

/-- The prediction from the surroundings of a non-bone x: method, filter chain, final conversion; none where the spec
gives no value (44_spline.md R257; log 8). -/
def predictFrom (cfg : Word) (v : Nat) (sr : Surroundings) (x : Nat) : Option Int :=
  match sr.l1, sr.r1 with
  | some l1, some r1 =>
    (methodValue cfg sr l1 r1 x).map (fun r => ((filterChain cfg).foldl (applyFilter v l1 r1) r).finalInt)
  | _, _ => none

/-- Predict(x) as a function of N, V, the configuration, the bones and x (44_spline.md R257, R259). -/
def purePredict (spl : Spline) (x : Nat) : Int :=
  match boneAt spl.bones x with
  | some y => y
  | none =>
    match predictFrom spl.cfg spl.v (surroundings spl.bones x) x with
    | some p => p
    | none => Config.freePrediction spl.n spl.v spl.cfg spl.bones x

/-! Caches. -/

/-- The nearer of two bone indices, the left one when equally near (44_spline.md R261). -/
def nearerBone (x : Nat) (best : Option Nat) (b : Nat) : Option Nat :=
  match best with
  | none => some b
  | some a => if absDist x b < absDist x a then some b else some a

/-- NearestBone(x), null while there is no bone (44_spline.md R261). -/
def nearestBone (bones : List (Option Int)) (x : Nat) : Option Nat :=
  ((bonePoints bones).map Prod.fst).foldl (nearerBone x) none

/-- A slot flattened: x_i·V + y_i, a null slot N·V (44_spline.md R262). -/
def flattenSlot (n v : Nat) (p : Option (Nat × Int)) : Int :=
  match p with
  | none => (n : Int) * v
  | some (xi, yi) => (xi : Int) * v + yi

/-- The packed key of a sorted list of flattened slots, base N·V + 1 (44_spline.md R263). -/
def packKeys (base : Int) (ks : List Int) : Int :=
  match ks with
  | [] => 0
  | k :: rest => k + base * packKeys base rest

/-- The value-cache key of a set of surroundings (44_spline.md R263). -/
def surroundKeyOf (n v : Nat) (sr : Surroundings) : Int :=
  packKeys ((n : Int) * v + 1) (((slots sr).map (flattenSlot n v)).insertionSort (· ≤ ·))

/-- SurroundKey(x) (44_spline.md R263). -/
def surroundKey (spl : Spline) (x : Nat) : Int := surroundKeyOf spl.n spl.v (surroundings spl.bones x)

/-- VC[k][x], if cached (44_spline.md R266). -/
def vcLookup (vc : List VcEntry) (k : Int) (x : Nat) : Option Int :=
  (vc.find? (fun e => e.key == k && e.x == x)).map VcEntry.value

/-- The order (key, x) in which `vc` is held. -/
def vcLt (a b : VcEntry) : Bool := decide (a.key < b.key) || (a.key == b.key && decide (a.x < b.x))

/-- VC[k][x] <- value, keeping the order (44_spline.md R266). -/
def vcInsert (e : VcEntry) (vc : List VcEntry) : List VcEntry :=
  match vc with
  | [] => [e]
  | a :: rest =>
    if vcLt e a then e :: a :: rest
    else if vcLt a e then a :: vcInsert e rest
    else e :: rest

/-- Delete VC[k], every entry under a key (44_spline.md R267). -/
def vcDrop (k : Int) (vc : List VcEntry) : List VcEntry := vc.filter (fun e => e.key != k)

/-- VC after a new prediction: emptied first when it holds VCCAP predictions (44_spline.md R266). -/
def vcStore (e : VcEntry) (vc : List VcEntry) : List VcEntry :=
  if vc.length = Config.vcCap then [e] else vcInsert e vc

/-- Predict(x) with the value cache: the prediction and the Spline after it, in which only VC may differ
(44_spline.md R257, R266). -/
def predict (spl : Spline) (x : Nat) : Int × Spline :=
  match boneAt spl.bones x with
  | some y => (y, spl)
  | none =>
    if spl.vcEn then
      match vcLookup spl.vc (surroundKey spl x) x with
      | some p => (p, spl)
      | none =>
        (purePredict spl x,
          { spl with vc := vcStore { key := surroundKey spl x, x := x, value := purePredict spl x } spl.vc })
    else (purePredict spl x, spl)

/-- LOC and DIST as their invariants say, for the Spline's policy (44_spline.md R264, R265). -/
def refreshLocations (spl : Spline) : Spline :=
  { spl with
    loc := if spl.locPol = .nearby then (List.range spl.n).map (nearestBone spl.bones) else []
    dist := if spl.locPol = .distance then
        (List.range spl.n).map (fun x => (nearestBone spl.bones x).map (absDist x)) else [] }

/-- The installing part of Set(x, y): the bone, LOC and DIST, and the VC entries under the old key of x dropped
(44_spline.md R260, R264, R265, R267). -/
def installBone (spl : Spline) (x : Nat) (y : Int) : Spline :=
  refreshLocations { spl with
    bones := spl.bones.set x (some y)
    vc := if spl.vcEn then vcDrop (surroundKey spl x) spl.vc else spl.vc }

/-- Set(x, y) (44_spline.md R260). -/
def setBone (spl : Spline) (x : Nat) (y : Int) : Except Err Spline := do
  require (x < spl.n) (domainErr 0x02#8 (.val x))
  require (y < spl.v) (domainErr 0x03#8 (.val y))
  match boneAt spl.bones x with
  | none => pure (installBone spl x y)
  | some y' => if y' = y then pure spl else .error (integrityErr 0x26#8 (.val x))

/-- CTL.CINV's effect on an initialised Spline (40_control.md R113). -/
def invalidateCaches (spl : Spline) : Spline :=
  if spl.valid then refreshLocations { spl with vc := if spl.vcEn then [] else spl.vc } else spl

/-! Initialisation. -/

/-- CheckMethod: METHOD 6-7, NFILT 5-7 and, when METHOD = 5, IDWP = 0 or IDWD ≥ 2 raise IllegalCommand 0x55; the rule
names no info value (44_spline.md R240; log 6). -/
def checkMethod (cfg : Word) : Except Err Unit :=
  require (methodField cfg ≤ 5 ∧ nfiltField cfg ≤ 4
      ∧ (methodField cfg = 5 → idwpField cfg ≠ 0 ∧ idwdField cfg < 2))
    (illegalErr 0x55#8 .unstated)

/-- CheckCache: LOCPOL = 3 raises IllegalCommand 0x55 (10_state.md R32, 44_spline.md R240; log 6). -/
def checkCache (cfg : Word) : Except Err Unit := require (locpolField cfg ≤ 2) (illegalErr 0x55#8 .unstated)

/-- EndpointValues(ENDPT, V, e0, e1) (44_spline.md R241). -/
def endpointValues (endpt v e0 e1 : Nat) : Except Err (Int × Int) :=
  match endpt with
  | 0 => .ok (0, 0)
  | 1 => .ok ((v / 2 : Nat), (v / 2 : Nat))
  | 2 => .ok ((v : Int) - 1, (v : Int) - 1)
  | _ => do
    require (e0 < v) (domainErr 0x03#8 (.val e0))
    require (e1 < v) (domainErr 0x03#8 (.val e1))
    pure (e0, e1)

/-- The Spline of a geometry, a configuration and two endpoint values (44_spline.md R240). -/
def freshSpline (n v : Nat) (cfg cache : Word) (v0 v1 : Int) : Spline :=
  let blank : Spline :=
    { valid := true, n := n, v := v, cfg := cfg, bones := List.replicate n none, locPol := locPolOf (locpolField cache),
      vcEn := vcenField cache, loc := [], dist := [], vc := [] }
  installBone (installBone blank 0 v0) (n - 1) v1

/-! Commands. -/

/-- SPL.VALID = 1 (10_state.md R35). -/
def requireSplValid (s : State) : Except Err Unit := require (s.spl.valid = true) (integrityCur 0x20#8 s)

/-- The checks SPL.VALID = 1 and x < SPL.N (44_spline.md R271, R272, R275). -/
def splCheckX (s : State) (x : Nat) : Except Err Unit := do
  requireSplValid s
  require (x < s.spl.n) (domainErr 0x02#8 (.val x))

/-- SPL.INIT (44_spline.md R240). -/
def execSplInit (s : State) : Host.Outcome State Fault Refusal :=
  endCommand s (do
    requireNotActive s
    requireGeometry (zext s.cfgN) (zext s.cfgV)
    checkMethod s.cfgMethod
    checkCache s.cfgCache
    let (v0, v1) ← endpointValues (endptField s.cfgMethod) (zext s.cfgV) (zext s.arg1) (zext s.arg2)
    pure { s with spl := freshSpline (zext s.cfgN) (zext s.cfgV) s.cfgMethod s.cfgCache v0 v1 })

/-- SPL.SET (44_spline.md R270). -/
def execSplSet (s : State) : Host.Outcome State Fault Refusal :=
  endCommand s (do
    requireSplValid s
    requireNotActive s
    let spl ← setBone s.spl (zext s.arg0) (zext s.arg1)
    pure { s with spl := spl })

/-- SPL.PRED (44_spline.md R271). -/
def execSplPred (s : State) : Host.Outcome State Fault Refusal :=
  endCommand s (do
    splCheckX s (zext s.arg0)
    pure { s with
      spl := (predict s.spl (zext s.arg0)).2
      res0 := pattern (predict s.spl (zext s.arg0)).1
      res1 := if (boneAt s.spl.bones (zext s.arg0)).isSome then 1#32 else 0#32 })

/-- The two elements SPL.SURR pushes for a slot; (-1, -1) marks a null slot (44_spline.md R272). -/
def slotElements (p : Option (Nat × Int)) : List Int :=
  match p with
  | none => [-1, -1]
  | some (x, y) => [(x : Int), y]

/-- SPL.SURR (44_spline.md R272). -/
def execSplSurr (s : State) : Host.Outcome State Fault Refusal :=
  endCommand s (do
    splCheckX s (zext s.arg0)
    let sl := slots (surroundings s.spl.bones (zext s.arg0))
    let sout ← seqPushAll s.sout (sl.flatMap slotElements)
    pure { s with sout := sout, res0 := BitVec.ofNat 32 (sl.filter Option.isSome).length })

/-- SPL.BONE (44_spline.md R275). -/
def execSplBone (s : State) : Host.Outcome State Fault Refusal :=
  endCommand s (do
    splCheckX s (zext s.arg0)
    match boneAt s.spl.bones (zext s.arg0) with
    | none => pure { s with res0 := 0xFFFFFFFF#32, res1 := 0#32 }
    | some y => pure { s with res0 := pattern y, res1 := 1#32 })

/-- Predict each x of a list in order and push it; the Spline's cache is kept even when a push raises
(44_spline.md R276, 60_exceptions.md R324). -/
def predictPush (xs : List Nat) (spl : Spline) (sout : List Int) : Spline × Except Err (List Int) :=
  match xs with
  | [] => (spl, .ok sout)
  | x :: rest =>
    let r := predict spl x
    match seqPush sout r.1 with
    | .error e => (r.2, .error e)
    | .ok sout' => predictPush rest r.2 sout'

/-- SPL.PREDALL (44_spline.md R276). -/
def execSplPredall (s : State) : Host.Outcome State Fault Refusal :=
  match requireSplValid s with
  | .error e => .next (raiseError e s)
  | .ok _ =>
    match predictPush (List.range s.spl.n) s.spl s.sout with
    | (spl, .error e) => .next (raiseError e { s with spl := spl })
    | (spl, .ok sout) =>
      .next (complete { s with spl := spl, sout := sout, res0 := BitVec.ofNat 32 s.spl.n })

end Sys2Proof.Machine
end

