-- ==== Sys2Proof/Machine/CerRun.lean ====
section
/-! DEFINITION. The CER run processor and the CER commands (45_cer.md R280..R311). -/

namespace Sys2Proof.Machine

/-! Rankings. -/

/-- The key order (score, x, y) of the rankings (10_state.md R39, 45_cer.md R284). -/
def rankLt (a b : RankEntry) : Bool :=
  decide (a.score < b.score)
    || (a.score == b.score && (decide (a.x < b.x) || (a.x == b.x && decide (a.y < b.y))))

/-- Insert(RANK, e), keeping the order; an entry already there is not added twice (10_state.md R39). -/
def rankInsert (e : RankEntry) (rank : List RankEntry) : List RankEntry :=
  match rank with
  | [] => [e]
  | a :: rest => if rankLt e a then e :: a :: rest else if rankLt a e then a :: rankInsert e rest else a :: rest

/-- RemoveCell(RANK, x, y) (10_state.md R39). -/
def rankRemove (x : Nat) (y : Int) (rank : List RankEntry) : List RankEntry :=
  rank.filter (fun e => !(e.x == x && e.y == y))

/-- Score of a cell under a prediction: V - |Predict(x) - y| (45_cer.md R283). -/
def scoreOf (v : Nat) (p y : Int) : Int := v - |p - y|

/-- PushFrontier(x, y): the score is computed now, with the value cache it may fill (45_cer.md R282). -/
def pushFrontier (s : State) (x : Nat) (y : Int) : State :=
  { s with
    spl := (predict s.spl x).2
    cer := { s.cer with
      rank := rankInsert { score := scoreOf s.cer.v (predict s.spl x).1 y, x := x, y := y } s.cer.rank } }

/-! One run. -/

/-- How a part of the run processor ends: it goes on in a state, or raises, and the state is the one at the point of the
error (60_exceptions.md R324). -/
abbrev Part := Except (Err × State) State

/-- PLAIN[x], null outside the array (10_state.md R38). -/
def plainAt (plain : List (Option Int)) (x : Nat) : Option Int := plain.getD x none

/-- SafetyBound (45_cer.md R294). -/
def safetyBound (c : Cer) : Nat := (c.n + 1) * (c.v + 1) + 2

/-- Append the step counter to PRESS, then CheckSum (45_cer.md R285, R295). -/
def emitPress (s : State) : Part :=
  let t := { s with cer := { s.cer with press := s.cer.press ++ [s.cer.s] } }
  if (t.cer.n : Int) * ((t.cer.v : Int) - 1) < t.cer.press.sum then
    .error (integrityErr 0x42#8 (.val t.cer.press.sum), t)
  else .ok t

/-- A press value read: it is appended to PRESS (45_cer.md R296). -/
def tookPress (p : Nat) (s : State) : State := { s with cer := { s.cer with press := s.cer.press ++ [p] } }

/-- NextPress from SIN (45_cer.md R296). -/
def nextPressSin (s : State) : Except Err (Nat × State) :=
  match seqPop s.sin with
  | none => .error (parseErr 0x16#8 (.val s.cer.runIndex))
  | some (e, rest) => do
    require (0 ≤ e) (parseErr 0x17#8 (.val e))
    pure (e.toNat, tookPress e.toNat { s with sin := rest })

/-- NextPress from BIN with the run codec of the snapshot (45_cer.md R296). -/
def nextPressBin (s : State) : Except Err (Nat × State) :=
  match codecOfId (rcidField s.cer.cfgCodec) with
  | none => .error (illegalErr 0x55#8 .unstated)
  | some c => do
    requireBound c (zext s.cer.cfgIotaMax)
    match decCode c (zext s.cer.cfgIotaMax) s.bin with
    | .error st => .error (stopErr (parseErr 0x16#8 (.val s.cer.runIndex)) s.bin st)
    | .ok (r, rest) => pure ((adaptOut1 c r).toNat, tookPress (adaptOut1 c r).toNat { s with bin := rest })

/-- NextPress (45_cer.md R296). -/
def nextPress (s : State) : Except Err (Nat × State) :=
  match s.cer.psrc with
  | .sin => nextPressSin s
  | .bin => nextPressBin s

/-- The press value of this run: the one already read, or the next one (45_cer.md R285). -/
def pressOf (p : Option Nat) (s : State) : Except Err (Nat × State) :=
  match p with
  | some v => .ok (v, s)
  | none => nextPress s

/-- Drop a cell from the rankings. -/
def dropCell (x : Nat) (y : Int) (s : State) : State :=
  { s with cer := { s.cer with rank := rankRemove x y s.cer.rank } }

/-- Set, then EliminateColumn, then PLAIN[x] <- v: what Hit and Absorb share (45_cer.md R287, R289). -/
def resolveCell (x : Nat) (v : Int) (s : State) : Part :=
  match setBone s.spl x v with
  | .error e => .error (e, s)
  | .ok spl =>
    match eliminateColumn s.cat x v with
    | .error e => .error (e, { s with spl := spl })
    | .ok cat =>
      .ok { s with spl := spl, cat := cat, cer := { s.cer with plain := s.cer.plain.set x (some v) } }

/-- The other frontier cell of a column, if distinct (45_cer.md R287). -/
def otherFrontier (c : Column) (y : Int) : Int := if y = c.lo + 1 then c.hi - 1 else c.lo + 1

/-- Hit(x, y) (45_cer.md R287). -/
def hitCell (x : Nat) (y : Int) (s : State) : Part :=
  let o := otherFrontier (columnAt s.cat x) y
  match resolveCell x y (if o = y then s else dropCell x o s) with
  | .error e => .error e
  | .ok t => .ok { t with cer := { t.cer with hits := t.cer.hits + 1 } }

/-- Absorb(x) (45_cer.md R289). -/
def absorbColumn (x : Nat) (s : State) : Part :=
  let v := (columnAt s.cat x).lo + 1
  match resolveCell x v (dropCell x v s) with
  | .error e => .error e
  | .ok t => .ok { t with cer := { t.cer with absorbs := t.cer.absorbs + 1 } }

/-- How a run ends: it returns in a state, final or not, with the count s in `cer.s`, or it raises. -/
inductive RunEnd where
  | done (s : State) (final : Bool)
  | raised (e : Err) (s : State)
  deriving DecidableEq, Repr

/-- The end of a run that returns: run_index <- run_index + 1 (45_cer.md R285). -/
def countRun (s : State) : State := { s with cer := { s.cer with runIndex := s.cer.runIndex + 1 } }

/-- The final run's end, at empty rankings (45_cer.md R285). -/
def finalRun (p : Option Nat) (s : State) : RunEnd :=
  match s.cer.mode with
  | .encode =>
    match emitPress s with
    | .error (e, t) => .raised e t
    | .ok t => .done (countRun { t with cer := { t.cer with phase := .done } }) true
  | .decode =>
    match pressOf p s with
    | .error e => .raised e s
    | .ok (v, t) =>
      if v = t.cer.s then .done (countRun { t with cer := { t.cer with phase := .done } }) true
      else .raised (parseErr 0x19#8 (.val t.cer.s)) t

/-- A hit's end of a run (45_cer.md R285). -/
def hitRun (e : RankEntry) (s : State) : RunEnd :=
  match (match s.cer.mode with
    | .encode => emitPress s
    | .decode => .ok s) with
  | .error (err, t) => .raised err t
  | .ok t =>
    match hitCell e.x e.y t with
    | .error (err, u) => .raised err u
    | .ok u => .done (countRun u) false

/-- Whether the popped cell is a hit, the press value of the run and the state after it was read (45_cer.md R285,
steps 2 and 3). -/
def decideHit (p : Option Nat) (e : RankEntry) (s : State) : Except Err (Bool × Option Nat × State) :=
  match s.cer.mode with
  | .encode => .ok (plainAt s.cer.plain e.x == some e.y, p, s)
  | .decode =>
    match pressOf p s with
    | .error err => .error err
    | .ok (v, t) => .ok (v == t.cer.s, some v, t)

/-- PopMin(RANK) with the least entry given (45_cer.md R284). -/
def popped (rest : List RankEntry) (s : State) : State := { s with cer := { s.cer with rank := rest } }

/-- s <- s + 1; elims <- elims + 1, with the new catalogue (45_cer.md R285). -/
def countElim (cat : Catalogue) (s : State) : State :=
  { s with cat := cat, cer := { s.cer with s := s.cer.s + 1, elims := s.cer.elims + 1 } }

/-- After an elimination: absorb a critical column, else push the replacement frontier cell on the side just
eliminated (45_cer.md R285). -/
def afterElim (crit low : Bool) (x : Nat) (s : State) : Part :=
  if crit then absorbColumn x s
  else .ok (pushFrontier s x (if low then (columnAt s.cat x).lo + 1 else (columnAt s.cat x).hi - 1))

/-- The loop of Run (45_cer.md R285). `left` is SafetyBound - s, so that an elimination at left = 0 is one that exceeds
the bound (R294). -/
def runLoop (left : Nat) (p : Option Nat) (s : State) : RunEnd :=
  match s.cer.rank with
  | [] => finalRun p s
  | e :: rest =>
    match decideHit p e (popped rest s) with
    | .error err => .raised err (popped rest s)
    | .ok (true, _, t) => hitRun e t
    | .ok (false, q, t) =>
      match eliminate t.cat e.x e.y with
      | .error err => .raised err t
      | .ok (cat, crit) =>
        match left with
        | 0 => .raised (integrityErr 0x41#8 (.val (countElim cat t).cer.s)) (countElim cat t)
        | left + 1 =>
          match afterElim crit (e.y == (columnAt t.cat e.x).lo + 1) e.x (countElim cat t) with
          | .error (err, u) => .raised err u
          | .ok u => runLoop left q u

/-- Run() (45_cer.md R285). -/
def run (s : State) : RunEnd :=
  runLoop (safetyBound s.cer) none { s with cer := { s.cer with s := 0 } }

/-- The number of unresolved columns. -/
def unresolvedCount (cat : Catalogue) : Nat := (cat.cols.filter (fun c => !c.rsv)).length

/-- Repeat Run() until final. Every run that is not final resolves a column, so `left` = the number of unresolved
columns never runs out (log 27). -/
def runUntilFinal (left : Nat) (s : State) : RunEnd :=
  match run s with
  | .raised e t => .raised e t
  | .done t true => .done t true
  | .done t false =>
    match left with
    | 0 => .done t false
    | left + 1 => runUntilFinal left t

/-- The remaining runs of the block (45_cer.md R300). -/
def runBlock (s : State) : RunEnd := runUntilFinal (unresolvedCount s.cat) s

/-- What an error of CER.RUN or CER.BLOCK, or of CER.ENCBLK or CER.DECBLK after block initialisation, keeps: CER, Spline
and catalogue at the point of the error with PHASE = FAILED; the FIFOs and everything else as before the command
(60_exceptions.md R324). -/
def failedBlock (s t : State) : State :=
  { s with cer := { t.cer with phase := .failed }, spl := t.spl, cat := t.cat }

/-! Initialisation. -/

/-- Push every frontier cell of a list in order (45_cer.md R290). -/
def pushCells (cells : List (Nat × Int)) (s : State) : State := cells.foldl (fun t c => pushFrontier t c.1 c.2) s

/-- The catalogue of a new block: the endpoint columns resolved (45_cer.md R290). -/
def blockCatalogue (n v : Nat) (v0 v1 : Int) : Catalogue :=
  setColumn (setColumn (freshCatalogue n v) 0 (resolvedColumn v0)) (n - 1) (resolvedColumn v1)

/-- The CER of a new block with empty rankings (45_cer.md R290, R298). -/
def blockCer (mode : Mode) (psrc : PressSrc) (n v : Nat) (cfg : Word) (plain : List (Option Int)) (s : State) : Cer :=
  { phase := .active, mode := mode, psrc := psrc, n := n, v := v, cfgMethod := cfg, cfgCodec := s.cfgCodec,
    cfgIotaMax := s.cfgIotaMax, plain := plain, press := [], rank := [], s := 0, runIndex := 0, elims := 0, hits := 0,
    absorbs := 0 }

/-- Block initialisation (45_cer.md R290). -/
def blockInit (mode : Mode) (psrc : PressSrc) (n v : Nat) (cfg : Word) (plain : List (Option Int)) (v0 v1 : Int)
    (s : State) : State :=
  let cat := blockCatalogue n v v0 v1
  pushCells (genExtreme true true cat)
    { s with
      spl := freshSpline n v cfg s.cfgCache v0 v1
      cat := cat
      cer := blockCer mode psrc n v cfg plain s }

/-- PLAIN of a new decode: [v0, null, …, null, v1] (45_cer.md R290). -/
def decodePlain (n : Nat) (v0 v1 : Int) : List (Option Int) :=
  ((List.replicate n none).set 0 (some v0)).set (n - 1) (some v1)

/-- The configuration checks of CER.INIT (45_cer.md R298). -/
def cerCheckConfig (n v : Nat) (cfg : Word) (s : State) : Except Err Unit := do
  requireGeometry n v
  checkMethod cfg
  checkCache s.cfgCache

/-- The check of the run codec: RCID ≤ 13, and M ≥ 3 for an Iota codec (45_cer.md R298, 10_state.md R29). -/
def cerCheckCodec (rcid : Nat) (m : Nat) : Except Err Codec :=
  match codecOfId rcid with
  | none => .error (illegalErr 0x55#8 .unstated)
  | some c => do
    requireBound c m
    pure c

/-- A plaintext sample lies in [0, V) (45_cer.md R298). -/
def requireSample (v : Nat) (e : Int) : Except Err Unit := require (0 ≤ e ∧ e < v) (domainErr 0x03#8 (.val e))

/-- The plaintext of an encode: the first N elements of SIN, each in [0, V) (45_cer.md R298). -/
def cerSamples (n v : Nat) (s : State) : Except Err (List Int) := do
  require (n ≤ s.sin.length) (domainErr 0x04#8 (.val n))
  (s.sin.take n).forM (requireSample v)
  pure (s.sin.take n)

/-- The samples popped and checked, then block initialisation of an encode (45_cer.md R290, R298). -/
def startEncode (psrc : PressSrc) (s : State) : Except Err State := do
  let n := zext s.cfgN
  let v := zext s.cfgV
  let xs ← cerSamples n v s
  pure (blockInit .encode psrc n v s.cfgMethod (xs.map some) (xs.getD 0 0) (xs.getD (n - 1) 0)
    { s with sin := s.sin.drop n })

/-- CER.INIT of an encode: the configuration checks, then the start of the block (45_cer.md R298). It does not use
CFG_CODEC and does not check it. -/
def beginEncode (psrc : PressSrc) (s : State) : Except Err State := do
  cerCheckConfig (zext s.cfgN) (zext s.cfgV) s.cfgMethod s
  startEncode psrc s

/-- The start of CER.ENCBLK: the configuration checks of CER.INIT and, because this command uses the run codec, that of
CFG_CODEC and CFG_IOTAMAX, all before block initialisation, so that a refused configuration changes nothing (30_encoding.md
R97, 45_cer.md R305, 60_exceptions.md R330; log 13). The run codec is answered beside the state. -/
def beginEncblk (s : State) : Except Err (Codec × State) := do
  cerCheckConfig (zext s.cfgN) (zext s.cfgV) s.cfgMethod s
  let c ← cerCheckCodec (rcidField s.cfgCodec) (zext s.cfgIotaMax)
  let t ← startEncode .sin s
  pure (c, t)

/-- CER.INIT of a decode: checks, then block initialisation (45_cer.md R298). -/
def beginDecode (psrc : PressSrc) (s : State) : Except Err State := do
  let n := zext s.cfgN
  let v := zext s.cfgV
  cerCheckConfig n v s.cfgMethod s
  if psrc = .bin then
    let _ ← cerCheckCodec (rcidField s.cfgCodec) (zext s.cfgIotaMax)
  require (zext s.arg1 < v) (domainErr 0x03#8 (.val (zext s.arg1)))
  require (zext s.arg2 < v) (domainErr 0x03#8 (.val (zext s.arg2)))
  pure (blockInit .decode psrc n v s.cfgMethod (decodePlain n (zext s.arg1) (zext s.arg2)) (zext s.arg1)
    (zext s.arg2) s)

/-! Commands. -/

/-- The press source of bit 1 of the mode word (45_cer.md R298). -/
def psrcOfBit (b : Bool) : PressSrc := if b then .bin else .sin

/-- CER.INIT, mode word m = ARG0.u (45_cer.md R298). -/
def execCerInit (s : State) : Host.Outcome State Fault Refusal :=
  endCommand s (do
    require (zext s.arg0 < 4) (illegalErr 0x56#8 (.val (zext s.arg0)))
    if s.arg0.getLsbD 0 then beginDecode (psrcOfBit (s.arg0.getLsbD 1)) s
    else beginEncode (psrcOfBit (s.arg0.getLsbD 1)) s)

/-- The end of CER.RUN (45_cer.md R299). -/
def endRun (s : State) (r : RunEnd) : Host.Outcome State Fault Refusal :=
  match r with
  | .raised e t => .next (raiseError e (failedBlock s t))
  | .done t final =>
    .next (complete { t with res0 := BitVec.ofNat 32 t.cer.s, res1 := if final then 1#32 else 0#32 })

/-- The runs of CER.RUN or CER.BLOCK on an ACTIVE block; in any other phase IntegrityError 0x43 (45_cer.md R299, R300). It
is an error in CER.RUN or CER.BLOCK, so PHASE becomes FAILED as after any other (R299, R308, 60_exceptions.md R324,
90_conflicts.md C9). DEDUCED (log 30): R281's "changes nothing" is read up to what R324 excepts. -/
def whenActive (runs : State → RunEnd) (s : State) : RunEnd :=
  match require (s.cer.phase = .active) (integrityCur 0x43#8 s) with
  | .error e => .raised e s
  | .ok _ => runs s

/-- CER.RUN (45_cer.md R299). -/
def execCerRun (s : State) : Host.Outcome State Fault Refusal := endRun s (whenActive run s)

/-- The end of CER.BLOCK (45_cer.md R300). -/
def endBlock (s : State) (r : RunEnd) : Host.Outcome State Fault Refusal :=
  match r with
  | .raised e t => .next (raiseError e (failedBlock s t))
  | .done t _ =>
    .next (complete { t with res0 := BitVec.ofNat 32 t.cer.runIndex, res1 := BitVec.ofNat 32 t.cer.elims })

/-- CER.BLOCK (45_cer.md R300). -/
def execCerBlock (s : State) : Host.Outcome State Fault Refusal := endBlock s (whenActive runBlock s)

/-- CER.FILL's loop from column x on: the filled array, the Spline after it, and the number of nulls filled
(45_cer.md R301). -/
def fillPlain (v : Nat) (x : Nat) (plain : List (Option Int)) (spl : Spline) : List (Option Int) × Spline × Nat :=
  match plain with
  | [] => ([], spl, 0)
  | some y :: rest =>
    let r := fillPlain v (x + 1) rest spl
    (some y :: r.1, r.2.1, r.2.2)
  | none :: rest =>
    let r := fillPlain v (x + 1) rest (predict spl x).2
    (some (min (max (predict spl x).1 0) ((v : Int) - 1)) :: r.1, r.2.1, r.2.2 + 1)

/-- CER.FILL (45_cer.md R301). -/
def execCerFill (s : State) : Host.Outcome State Fault Refusal :=
  endCommand s (do
    require (s.cer.phase = .done ∨ s.cer.phase = .failed) (integrityCur 0x43#8 s)
    let r := fillPlain s.cer.v 0 s.cer.plain s.spl
    pure { s with
      spl := r.2.1
      cer := { s.cer with plain := r.1 }
      res0 := BitVec.ofNat 32 r.2.2 })

/-- CER.PRESS (45_cer.md R302). -/
def execCerPress (s : State) : Host.Outcome State Fault Refusal :=
  endCommand s (do
    let sout ← seqPushAll s.sout (s.cer.press.map Int.ofNat)
    pure { s with sout := sout, res0 := BitVec.ofNat 32 s.cer.press.length })

/-- The element CER.PLAIN pushes for a sample; -1 marks a null (45_cer.md R311). -/
def plainElement (p : Option Int) : Int := p.getD (-1)

/-- CER.PLAIN (45_cer.md R311). -/
def execCerPlain (s : State) : Host.Outcome State Fault Refusal :=
  endCommand s (do
    let sout ← seqPushAll s.sout (s.cer.plain.map plainElement)
    pure { s with sout := sout, res0 := BitVec.ofNat 32 (s.cer.plain.filter Option.isSome).length })

/-- A sample as the natural number a raw field holds. -/
def sampleNat (plain : List (Option Int)) (x : Nat) : Nat := ((plainAt plain x).getD 0).toNat

/-- The header of the block format (45_cer.md R304, 30_encoding.md R98). -/
def blockHeader (c : Cer) : Bits :=
  encGamma c.n ++ encGamma c.v ++ binMsb 4 (methodField c.cfgMethod)
    ++ binMsb (ceilLog2 c.v) (sampleNat c.plain 0) ++ binMsb (ceilLog2 c.v) (sampleNat c.plain (c.n - 1))

/-- A run length is in the domain of the run codec (45_cer.md R305). -/
def requirePress (c : Codec) (m : Nat) (p : Nat) : Except Err Unit :=
  require (inDomain c m (adaptIn1 c p) = true) (domainErr 0x30#8 (.val p))

/-- Write one run length (45_cer.md R304). -/
def writePress (c : Codec) (m : Nat) (bout : Bits) (p : Nat) : Except Err Bits :=
  bitsWrite bout (codeLen c m (adaptIn1 c p).toNat) (encCode c m (adaptIn1 c p).toNat)

/-- The block format of a finished encode with run codec c, appended to BOUT; a run length that the codec cannot hold
raises first (45_cer.md R304, R305). -/
def writeBlock (c : Codec) (cer : Cer) (bout : Bits) : Except Err Bits := do
  let m := zext cer.cfgIotaMax
  cer.press.forM (requirePress c m)
  let bout ← bitsWrite bout (blockHeader cer).length (blockHeader cer)
  cer.press.foldlM (writePress c m) bout

/-- The end of CER.ENCBLK after its runs (45_cer.md R305). -/
def endEncblk (c : Codec) (s : State) (r : RunEnd) : Host.Outcome State Fault Refusal :=
  match r with
  | .raised e t => .next (raiseError e (failedBlock s t))
  | .done t _ =>
    match writeBlock c t.cer t.bout with
    | .error e => .next (raiseError e (failedBlock s t))
    | .ok bout =>
      .next (complete { t with
        bout := bout
        res0 := BitVec.ofNat 32 (bout.length - t.bout.length)
        res1 := BitVec.ofNat 32 t.cer.press.length })

/-- CER.ENCBLK (45_cer.md R305). -/
def execCerEncblk (s : State) : Host.Outcome State Fault Refusal :=
  match beginEncblk s with
  | .error e => .next (raiseError e s)
  | .ok (c, t) => endEncblk c s (runBlock t)

/-- A gamma field of the block header; the rule names no info for a clean EOS (45_cer.md R306; log 6). -/
def readGammaField (b : Bits) : Except Err (Nat × Bits) :=
  match decGamma b with
  | .error st => .error (stopErr (parseErr 0x10#8 .unstated) b st)
  | .ok r => .ok r

/-- A raw field of w bits of the block header; the rule names no info for an EOS (45_cer.md R306; log 6). -/
def readRawField (w : Nat) (b : Bits) : Except Err (Nat × Bits) :=
  match readInto w 0 b with
  | .error _ => .error (parseErr 0x10#8 .unstated)
  | .ok r => .ok r

/-- A decoded block header and the bits after it (45_cer.md R304). -/
structure BlockHeader where
  n : Nat
  v : Nat
  method : Nat
  v0 : Nat
  v1 : Nat
  rest : Bits
  deriving DecidableEq, Repr

/-- The header of CER.DECBLK with its checks in order (45_cer.md R306, 30_encoding.md R98). -/
def readHeader (b : Bits) : Except Err BlockHeader := do
  let (n, b) ← readGammaField b
  let (v, b) ← readGammaField b
  require (2 ≤ n ∧ n ≤ Config.nMax) (parseErr 0x1A#8 (.val n))
  require (2 ≤ v ∧ v ≤ Config.vMax) (parseErr 0x1A#8 (.val v))
  let (id, b) ← readRawField 4 b
  require (id ≤ 5) (parseErr 0x18#8 (.val id))
  let (v0, b) ← readRawField (ceilLog2 v) b
  let (v1, b) ← readRawField (ceilLog2 v) b
  require (v0 < v) (parseErr 0x1B#8 (.val v0))
  require (v1 < v) (parseErr 0x1B#8 (.val v1))
  pure { n := n, v := v, method := id, v0 := v0, v1 := v1, rest := b }

/-- The start of CER.DECBLK: the header, the checks of CER.INIT with m = 3, block initialisation with the header's
values and METHOD (45_cer.md R306). -/
def beginDecblk (s : State) : Except Err State := do
  let h ← readHeader s.bin
  let cfg := withMethod s.cfgMethod h.method
  cerCheckConfig h.n h.v cfg s
  let _ ← cerCheckCodec (rcidField s.cfgCodec) (zext s.cfgIotaMax)
  pure (blockInit .decode .bin h.n h.v cfg (decodePlain h.n h.v0 h.v1) h.v0 h.v1 { s with bin := h.rest })

/-- The end of CER.DECBLK after its runs (45_cer.md R306). -/
def endDecblk (s : State) (r : RunEnd) : Host.Outcome State Fault Refusal :=
  match r with
  | .raised e t => .next (raiseError e (failedBlock s t))
  | .done t _ =>
    match seqPushAll t.sout (t.cer.plain.map plainElement) with
    | .error e => .next (raiseError e (failedBlock s t))
    | .ok sout =>
      .next (complete { t with
        sout := sout
        res0 := BitVec.ofNat 32 t.cer.n
        res1 := BitVec.ofNat 32 (s.bin.length - t.bin.length) })

/-- CER.DECBLK (45_cer.md R306). -/
def execCerDecblk (s : State) : Host.Outcome State Fault Refusal :=
  match beginDecblk s with
  | .error e => .next (raiseError e s)
  | .ok t => endDecblk s (runBlock t)

/-- CER.SCORE (45_cer.md R288). -/
def execCerScore (s : State) : Host.Outcome State Fault Refusal :=
  endCommand s (do
    splCheckX s (zext s.arg0)
    require (zext s.arg1 < s.spl.v) (domainErr 0x03#8 (.val (zext s.arg1)))
    pure { s with
      spl := (predict s.spl (zext s.arg0)).2
      res0 := pattern (scoreOf s.spl.v (predict s.spl (zext s.arg0)).1 (zext s.arg1)) })

end Sys2Proof.Machine
end

