-- ==== Sys2Proof/Machine/Control.lean ====
section
/-! DEFINITION. The CTL commands (40_control.md R110..R113). -/

namespace Sys2Proof.Machine

/-- CTL.NOP (40_control.md R110). -/
def execCtlNop (s : State) : Host.Outcome State Fault Refusal := endCommand s (.ok s)

/-- Every piece of the block's state at its reset value, but the sticky flags OVR, SERR, PORTERR, which keep theirs
(40_control.md R111). The model's own fields are no state of the block and stay. -/
def softReset (s : State) : State :=
  { State.reset with
    status := { Status.reset with ovr := s.status.ovr, serr := s.status.serr, porterr := s.status.porterr }
    host := s.host
    rdata := s.rdata
    free := s.free }

/-- CTL.SRESET (40_control.md R111). -/
def execCtlSreset (s : State) : Host.Outcome State Fault Refusal := endCommand s (.ok (softReset s))

/-- CTL.FLUSH m (40_control.md R112). -/
def execCtlFlush (m : BitVec 8) (s : State) : Host.Outcome State Fault Refusal :=
  endCommand s (do
    require (flushMaskOk m = true) (illegalErr 0x52#8 (.val (zext s.cur)))
    pure { s with
      bin := if m.getLsbD 0 then [] else s.bin
      bout := if m.getLsbD 1 then [] else s.bout
      sin := if m.getLsbD 2 then [] else s.sin
      sout := if m.getLsbD 3 then [] else s.sout })

/-- CTL.CINV (40_control.md R113). -/
def execCtlCinv (s : State) : Host.Outcome State Fault Refusal :=
  endCommand s (.ok { s with spl := invalidateCaches s.spl })

end Sys2Proof.Machine
end

