-- ==== Sys2Proof/Machine/UniversalCodes.lean ====
section
/-! DEFINITION. The UC commands (41_universal_codes.md R120..R123): four shared bodies, and one meaning for each row of
the opcode table. -/

namespace Sys2Proof.Machine

/-- The Iota bound of a UC or haven command: M = ARG1.u (41_universal_codes.md R136). -/
def boundArg (s : State) : Nat := zext s.arg1

/-- A decoded value fits RES0 (41_universal_codes.md R126). -/
def fitsRes (d : Dom) (v : Int) : Bool :=
  match d with
  | .native => decide (0 ≤ v ∧ v < 2 ^ 32)
  | .unsigned => decide (0 ≤ v ∧ v < 2 ^ 32)
  | .signed => decide (-2 ^ 31 ≤ v ∧ v < 2 ^ 31)

/-- UC.ENC: encode one value (41_universal_codes.md R120). -/
def ucEnc (c : Codec) (d : Dom) (s : State) : Except Err State := do
  requireBound c (boundArg s)
  let bout ← encodeOne c (boundArg s) d (encOperand d s) (zext s.arg0) s.bout
  pure { s with
    bout := bout
    res0 := BitVec.ofNat 32 (codeLen c (boundArg s) (adaptIn d c (encOperand d s)).toNat) }

/-- UC.DEC: decode one value (41_universal_codes.md R121). -/
def ucDec (c : Codec) (d : Dom) (s : State) : Except Err State := do
  requireBound c (boundArg s)
  match decCode c (boundArg s) s.bin with
  | .error st => .error (stopErr (exhaustionErr 0x12#8 (.val 0)) s.bin st)
  | .ok (r, rest) =>
    require (fitsRes d (adaptOut d c r) = true) (parseErr 0x11#8 (.val (adaptOut d c r)))
    pure { s with
      res0 := pattern (adaptOut d c r)
      res1 := BitVec.ofNat 32 (s.bin.length - rest.length)
      bin := rest }

/-- UC.ENCSEQ: encode all of SIN (41_universal_codes.md R122). -/
def ucEncSeq (c : Codec) (d : Dom) (s : State) : Except Err State := do
  requireBound c (boundArg s)
  let bout ← s.sin.foldlM (fun bout e => encodeOne c (boundArg s) d e e bout) s.bout
  pure { s with bout := bout, sin := [], res0 := BitVec.ofNat 32 s.sin.length }

/-- The loop of UC.DECSEQ (41_universal_codes.md R123). Each codeword has at least one bit, so |BIN| rounds suffice. -/
def decSeqFrom (c : Codec) (m : Nat) (d : Dom) (fuel : Nat) (b : Bits) (sout : List Int) (cnt : Nat) :
    Except Err (List Int × Nat) :=
  match decCode c m b with
  | .error .cleanEos => .ok (sout, cnt)
  | .error st => .error (stopErr (exhaustionErr 0x12#8 (.val 0)) b st)
  | .ok (r, rest) => do
    require (-2 ^ 31 ≤ adaptOut d c r ∧ adaptOut d c r < 2 ^ 31) (parseErr 0x11#8 (.val (adaptOut d c r)))
    let sout ← seqPush sout (adaptOut d c r)
    match fuel with
    | 0 => pure (sout, cnt + 1)
    | fuel + 1 => decSeqFrom c m d fuel rest sout (cnt + 1)

/-- UC.DECSEQ: decode BIN to its end (41_universal_codes.md R123). -/
def ucDecSeq (c : Codec) (d : Dom) (s : State) : Except Err State := do
  requireBound c (boundArg s)
  let (sout, cnt) ← decSeqFrom c (boundArg s) d s.bin.length s.bin s.sout 0
  pure { s with bin := [], sout := sout, res0 := BitVec.ofNat 32 cnt }

/-- ENC.UNARY (41_universal_codes.md R120). -/
def execEncUnary (d : Dom) (s : State) : Host.Outcome State Fault Refusal := endCommand s (ucEnc .unary d s)

/-- ENC.GAMMA (41_universal_codes.md R120). -/
def execEncGamma (d : Dom) (s : State) : Host.Outcome State Fault Refusal := endCommand s (ucEnc .gamma d s)

/-- ENC.DELTA (41_universal_codes.md R120). -/
def execEncDelta (d : Dom) (s : State) : Host.Outcome State Fault Refusal := endCommand s (ucEnc .delta d s)

/-- ENC.FIB (41_universal_codes.md R120). -/
def execEncFib (d : Dom) (s : State) : Host.Outcome State Fault Refusal := endCommand s (ucEnc .fib d s)

/-- ENC.TRIB (41_universal_codes.md R120). -/
def execEncTrib (d : Dom) (s : State) : Host.Outcome State Fault Refusal := endCommand s (ucEnc .trib d s)

/-- ENC.ENB4 (41_universal_codes.md R120). -/
def execEncEnb4 (d : Dom) (s : State) : Host.Outcome State Fault Refusal := endCommand s (ucEnc .enb4 d s)

/-- ENC.ENB5 (41_universal_codes.md R120). -/
def execEncEnb5 (d : Dom) (s : State) : Host.Outcome State Fault Refusal := endCommand s (ucEnc .enb5 d s)

/-- ENC.ENB6 (41_universal_codes.md R120). -/
def execEncEnb6 (d : Dom) (s : State) : Host.Outcome State Fault Refusal := endCommand s (ucEnc .enb6 d s)

/-- ENC.ENB7 (41_universal_codes.md R120). -/
def execEncEnb7 (d : Dom) (s : State) : Host.Outcome State Fault Refusal := endCommand s (ucEnc .enb7 d s)

/-- ENC.ENB8 (41_universal_codes.md R120). -/
def execEncEnb8 (d : Dom) (s : State) : Host.Outcome State Fault Refusal := endCommand s (ucEnc .enb8 d s)

/-- ENC.GFIB (41_universal_codes.md R120). -/
def execEncGfib (d : Dom) (s : State) : Host.Outcome State Fault Refusal := endCommand s (ucEnc .gfib d s)

/-- ENC.DFIB (41_universal_codes.md R120). -/
def execEncDfib (d : Dom) (s : State) : Host.Outcome State Fault Refusal := endCommand s (ucEnc .dfib d s)

/-- ENC.GIOTA (41_universal_codes.md R120). -/
def execEncGiota (d : Dom) (s : State) : Host.Outcome State Fault Refusal := endCommand s (ucEnc .giota d s)

/-- ENC.DIOTA (41_universal_codes.md R120). -/
def execEncDiota (d : Dom) (s : State) : Host.Outcome State Fault Refusal := endCommand s (ucEnc .diota d s)

/-- DEC.UNARY (41_universal_codes.md R121). -/
def execDecUnary (d : Dom) (s : State) : Host.Outcome State Fault Refusal := endCommand s (ucDec .unary d s)

/-- DEC.GAMMA (41_universal_codes.md R121). -/
def execDecGamma (d : Dom) (s : State) : Host.Outcome State Fault Refusal := endCommand s (ucDec .gamma d s)

/-- DEC.DELTA (41_universal_codes.md R121). -/
def execDecDelta (d : Dom) (s : State) : Host.Outcome State Fault Refusal := endCommand s (ucDec .delta d s)

/-- DEC.FIB (41_universal_codes.md R121). -/
def execDecFib (d : Dom) (s : State) : Host.Outcome State Fault Refusal := endCommand s (ucDec .fib d s)

/-- DEC.TRIB (41_universal_codes.md R121). -/
def execDecTrib (d : Dom) (s : State) : Host.Outcome State Fault Refusal := endCommand s (ucDec .trib d s)

/-- DEC.ENB4 (41_universal_codes.md R121). -/
def execDecEnb4 (d : Dom) (s : State) : Host.Outcome State Fault Refusal := endCommand s (ucDec .enb4 d s)

/-- DEC.ENB5 (41_universal_codes.md R121). -/
def execDecEnb5 (d : Dom) (s : State) : Host.Outcome State Fault Refusal := endCommand s (ucDec .enb5 d s)

/-- DEC.ENB6 (41_universal_codes.md R121). -/
def execDecEnb6 (d : Dom) (s : State) : Host.Outcome State Fault Refusal := endCommand s (ucDec .enb6 d s)

/-- DEC.ENB7 (41_universal_codes.md R121). -/
def execDecEnb7 (d : Dom) (s : State) : Host.Outcome State Fault Refusal := endCommand s (ucDec .enb7 d s)

/-- DEC.ENB8 (41_universal_codes.md R121). -/
def execDecEnb8 (d : Dom) (s : State) : Host.Outcome State Fault Refusal := endCommand s (ucDec .enb8 d s)

/-- DEC.GFIB (41_universal_codes.md R121). -/
def execDecGfib (d : Dom) (s : State) : Host.Outcome State Fault Refusal := endCommand s (ucDec .gfib d s)

/-- DEC.DFIB (41_universal_codes.md R121). -/
def execDecDfib (d : Dom) (s : State) : Host.Outcome State Fault Refusal := endCommand s (ucDec .dfib d s)

/-- DEC.GIOTA (41_universal_codes.md R121). -/
def execDecGiota (d : Dom) (s : State) : Host.Outcome State Fault Refusal := endCommand s (ucDec .giota d s)

/-- DEC.DIOTA (41_universal_codes.md R121). -/
def execDecDiota (d : Dom) (s : State) : Host.Outcome State Fault Refusal := endCommand s (ucDec .diota d s)

/-- ENCSEQ.UNARY (41_universal_codes.md R122). -/
def execEncseqUnary (d : Dom) (s : State) : Host.Outcome State Fault Refusal := endCommand s (ucEncSeq .unary d s)

/-- ENCSEQ.GAMMA (41_universal_codes.md R122). -/
def execEncseqGamma (d : Dom) (s : State) : Host.Outcome State Fault Refusal := endCommand s (ucEncSeq .gamma d s)

/-- ENCSEQ.DELTA (41_universal_codes.md R122). -/
def execEncseqDelta (d : Dom) (s : State) : Host.Outcome State Fault Refusal := endCommand s (ucEncSeq .delta d s)

/-- ENCSEQ.FIB (41_universal_codes.md R122). -/
def execEncseqFib (d : Dom) (s : State) : Host.Outcome State Fault Refusal := endCommand s (ucEncSeq .fib d s)

/-- ENCSEQ.TRIB (41_universal_codes.md R122). -/
def execEncseqTrib (d : Dom) (s : State) : Host.Outcome State Fault Refusal := endCommand s (ucEncSeq .trib d s)

/-- ENCSEQ.ENB4 (41_universal_codes.md R122). -/
def execEncseqEnb4 (d : Dom) (s : State) : Host.Outcome State Fault Refusal := endCommand s (ucEncSeq .enb4 d s)

/-- ENCSEQ.ENB5 (41_universal_codes.md R122). -/
def execEncseqEnb5 (d : Dom) (s : State) : Host.Outcome State Fault Refusal := endCommand s (ucEncSeq .enb5 d s)

/-- ENCSEQ.ENB6 (41_universal_codes.md R122). -/
def execEncseqEnb6 (d : Dom) (s : State) : Host.Outcome State Fault Refusal := endCommand s (ucEncSeq .enb6 d s)

/-- ENCSEQ.ENB7 (41_universal_codes.md R122). -/
def execEncseqEnb7 (d : Dom) (s : State) : Host.Outcome State Fault Refusal := endCommand s (ucEncSeq .enb7 d s)

/-- ENCSEQ.ENB8 (41_universal_codes.md R122). -/
def execEncseqEnb8 (d : Dom) (s : State) : Host.Outcome State Fault Refusal := endCommand s (ucEncSeq .enb8 d s)

/-- ENCSEQ.GFIB (41_universal_codes.md R122). -/
def execEncseqGfib (d : Dom) (s : State) : Host.Outcome State Fault Refusal := endCommand s (ucEncSeq .gfib d s)

/-- ENCSEQ.DFIB (41_universal_codes.md R122). -/
def execEncseqDfib (d : Dom) (s : State) : Host.Outcome State Fault Refusal := endCommand s (ucEncSeq .dfib d s)

/-- ENCSEQ.GIOTA (41_universal_codes.md R122). -/
def execEncseqGiota (d : Dom) (s : State) : Host.Outcome State Fault Refusal := endCommand s (ucEncSeq .giota d s)

/-- ENCSEQ.DIOTA (41_universal_codes.md R122). -/
def execEncseqDiota (d : Dom) (s : State) : Host.Outcome State Fault Refusal := endCommand s (ucEncSeq .diota d s)

/-- DECSEQ.UNARY (41_universal_codes.md R123). -/
def execDecseqUnary (d : Dom) (s : State) : Host.Outcome State Fault Refusal := endCommand s (ucDecSeq .unary d s)

/-- DECSEQ.GAMMA (41_universal_codes.md R123). -/
def execDecseqGamma (d : Dom) (s : State) : Host.Outcome State Fault Refusal := endCommand s (ucDecSeq .gamma d s)

/-- DECSEQ.DELTA (41_universal_codes.md R123). -/
def execDecseqDelta (d : Dom) (s : State) : Host.Outcome State Fault Refusal := endCommand s (ucDecSeq .delta d s)

/-- DECSEQ.FIB (41_universal_codes.md R123). -/
def execDecseqFib (d : Dom) (s : State) : Host.Outcome State Fault Refusal := endCommand s (ucDecSeq .fib d s)

/-- DECSEQ.TRIB (41_universal_codes.md R123). -/
def execDecseqTrib (d : Dom) (s : State) : Host.Outcome State Fault Refusal := endCommand s (ucDecSeq .trib d s)

/-- DECSEQ.ENB4 (41_universal_codes.md R123). -/
def execDecseqEnb4 (d : Dom) (s : State) : Host.Outcome State Fault Refusal := endCommand s (ucDecSeq .enb4 d s)

/-- DECSEQ.ENB5 (41_universal_codes.md R123). -/
def execDecseqEnb5 (d : Dom) (s : State) : Host.Outcome State Fault Refusal := endCommand s (ucDecSeq .enb5 d s)

/-- DECSEQ.ENB6 (41_universal_codes.md R123). -/
def execDecseqEnb6 (d : Dom) (s : State) : Host.Outcome State Fault Refusal := endCommand s (ucDecSeq .enb6 d s)

/-- DECSEQ.ENB7 (41_universal_codes.md R123). -/
def execDecseqEnb7 (d : Dom) (s : State) : Host.Outcome State Fault Refusal := endCommand s (ucDecSeq .enb7 d s)

/-- DECSEQ.ENB8 (41_universal_codes.md R123). -/
def execDecseqEnb8 (d : Dom) (s : State) : Host.Outcome State Fault Refusal := endCommand s (ucDecSeq .enb8 d s)

/-- DECSEQ.GFIB (41_universal_codes.md R123). -/
def execDecseqGfib (d : Dom) (s : State) : Host.Outcome State Fault Refusal := endCommand s (ucDecSeq .gfib d s)

/-- DECSEQ.DFIB (41_universal_codes.md R123). -/
def execDecseqDfib (d : Dom) (s : State) : Host.Outcome State Fault Refusal := endCommand s (ucDecSeq .dfib d s)

/-- DECSEQ.GIOTA (41_universal_codes.md R123). -/
def execDecseqGiota (d : Dom) (s : State) : Host.Outcome State Fault Refusal := endCommand s (ucDecSeq .giota d s)

/-- DECSEQ.DIOTA (41_universal_codes.md R123). -/
def execDecseqDiota (d : Dom) (s : State) : Host.Outcome State Fault Refusal := endCommand s (ucDecSeq .diota d s)

end Sys2Proof.Machine
end

