-- ==== Sys2Proof/Machine/Transforms.lean ====
section
/-! DEFINITION. The XF commands, integer-sequence transforms (42_transforms.md R170..R201). Every sequence command reads
all of SIN (ReadAll) and leaves it empty. -/

namespace Sys2Proof.Machine

/-- A transform that reads SIN to its end and appends to SOUT: `f xs sout` is SOUT with the result appended. -/
def xfSeq (f : List Int → List Int → Except Err (List Int)) (s : State) : Except Err State := do
  let sout ← f s.sin s.sout
  pure { s with sin := [], sout := sout }

/-- An element must be ≥ 0, else DomainError 0x30 (42_transforms.md R174, R176, R187, R192). -/
def requireNonneg (e : Int) : Except Err Unit := require (0 ≤ e) (domainErr 0x30#8 (.val e))

/-! Delta. -/

/-- y[i] = x[i] - x[i-1], where the element before the list is `prev` (42_transforms.md R170). -/
def deltaEnc (prev : Int) (xs : List Int) : List Int :=
  match xs with
  | [] => []
  | x :: rest => (x - prev) :: deltaEnc x rest

/-- The running sums from `acc` (42_transforms.md R171). -/
def deltaDec (acc : Int) (ys : List Int) : List Int :=
  match ys with
  | [] => []
  | y :: rest => (acc + y) :: deltaDec (acc + y) rest

/-- XF.DELTAE (42_transforms.md R170). -/
def execXfDeltae (s : State) : Host.Outcome State Fault Refusal :=
  endCommand s (xfSeq (fun xs sout => seqPushAll sout (deltaEnc 0 xs)) s)

/-- XF.DELTAD (42_transforms.md R171). -/
def execXfDeltad (s : State) : Host.Outcome State Fault Refusal :=
  endCommand s (xfSeq (fun ys sout => seqPushAll sout (deltaDec 0 ys)) s)

/-! Zig-zag. -/

/-- XF.ZZE (42_transforms.md R173). -/
def execXfZze (s : State) : Host.Outcome State Fault Refusal :=
  endCommand s (xfSeq (fun xs sout => seqPushAll sout (xs.map zigZag)) s)

/-- One element of XF.ZZD: check, then push (42_transforms.md R174). -/
def unZigZagPush (sout : List Int) (e : Int) : Except Err (List Int) := do
  requireNonneg e
  seqPush sout (unZigZag e)

/-- XF.ZZD (42_transforms.md R174). -/
def execXfZzd (s : State) : Host.Outcome State Fault Refusal :=
  endCommand s (xfSeq (fun xs sout => xs.foldlM unZigZagPush sout) s)

/-! Focused zig-zag. -/

/-- FocusedZigZag(v, f) (42_transforms.md R175). -/
def focusedZigZag (v f : Int) : Int := if v ≤ 2 * f then zigZag (v - f) else v

/-- FocusedUnZigZag(u, f) (42_transforms.md R175). -/
def focusedUnZigZag (u f : Int) : Int := if u ≤ 2 * f then unZigZag u + f else u

/-- One element of XF.FZZE or XF.FZZD: check, then push (42_transforms.md R176, R177). -/
def focusedPush (g : Int → Int → Int) (f : Int) (sout : List Int) (e : Int) : Except Err (List Int) := do
  requireNonneg e
  seqPush sout (g e f)

/-- The body of XF.FZZE and XF.FZZD with focus f = ARG0.u (42_transforms.md R176, R177). -/
def xfFocused (g : Int → Int → Int) (s : State) : Except Err State := do
  require (zext s.arg0 < 2 ^ 30) (domainErr 0x30#8 (.val (zext s.arg0)))
  xfSeq (fun xs sout => xs.foldlM (focusedPush g (zext s.arg0)) sout) s

/-- XF.FZZE (42_transforms.md R176). -/
def execXfFzze (s : State) : Host.Outcome State Fault Refusal := endCommand s (xfFocused focusedZigZag s)

/-- XF.FZZD (42_transforms.md R177). -/
def execXfFzzd (s : State) : Host.Outcome State Fault Refusal := endCommand s (xfFocused focusedUnZigZag s)

/-! Tracked sum. -/

/-- width(R) = ⌈log₂(R + 1)⌉ (42_transforms.md R180). -/
def tsumWidth (r : Nat) : Nat := ceilLog2 (r + 1)

/-- The loop of XF.TSUME with remaining budget r: BOUT and the number of bits written (42_transforms.md R182). -/
def tsumEncFrom (r : Nat) (ns : List Int) (bout : Bits) (nbits : Nat) : Except Err (Bits × Nat) :=
  match ns with
  | [] => .ok (bout, nbits)
  | n :: rest => do
    require (0 ≤ n ∧ n ≤ r) (domainErr 0x32#8 (.val n))
    let bout ← bitsWrite bout (tsumWidth r) (binMsb (tsumWidth r) n.toNat)
    tsumEncFrom (r - n.toNat) rest bout (nbits + tsumWidth r)

/-- XF.TSUME, S = ARG0.u (42_transforms.md R182). -/
def execXfTsume (s : State) : Host.Outcome State Fault Refusal :=
  endCommand s (do
    let (bout, nbits) ← tsumEncFrom (zext s.arg0) s.sin s.bout 0
    pure { s with bout := bout, sin := [], res0 := BitVec.ofNat 32 nbits })

/-- The loop of XF.TSUMD: c items to come, total `total`, sum p so far (42_transforms.md R183). -/
def tsumDecFrom (total c p : Nat) (b : Bits) (sout : List Int) : Except Err (Bits × List Int) :=
  match c with
  | 0 => .ok (b, sout)
  | c + 1 =>
    match readInto (tsumWidth (total - p)) 0 b with
    | .error _ => .error (parseErr 0x10#8 (.val p))
    | .ok (n, rest) => do
      require (n ≤ total - p) (parseErr 0x14#8 (.val n))
      let sout ← seqPush sout n
      tsumDecFrom total c (p + n) rest sout

/-- XF.TSUMD, S = ARG0.u, C = ARG1.u (42_transforms.md R183). -/
def execXfTsumd (s : State) : Host.Outcome State Fault Refusal :=
  endCommand s (do
    let (bin, sout) ← tsumDecFrom (zext s.arg0) (zext s.arg1) 0 s.bin s.sout
    pure { s with bin := bin, sout := sout })

/-! Haven bucket. -/

/-- The bucket-size function b selected by BFN: 0 constant HB0, 1 the magnitude of the previous value
(42_transforms.md R186). -/
def havenBucket (bfn hb0 prev : Nat) : Nat :=
  if bfn = 0 then hb0 else if prev = 0 then 0 else Nat.log2 prev

/-- The checks of CFG_HAVEN, HB0 first (42_transforms.md R187). -/
def requireHaven (s : State) : Except Err Unit := do
  require (hb0Field s.cfgHaven ≤ 31) (domainErr 0x33#8 (.val (hb0Field s.cfgHaven)))
  require (bfnField s.cfgHaven ≤ 1) (illegalErr 0x55#8 (.val (zext s.cfgHaven)))

/-- The loop of XF.HAVENE with bucket size hb (42_transforms.md R187). -/
def havenEncFrom (c : Codec) (m bfn hb0 hb : Nat) (ns : List Int) (bout : Bits) : Except Err Bits :=
  match ns with
  | [] => .ok bout
  | n :: rest => do
    requireNonneg n
    let v := adaptIn1 c ((n.toNat >>> hb : Nat) : Int)
    require (inDomain c m v = true) (domainErr 0x30#8 (.val n))
    let bout ← bitsWrite bout (codeLen c m v.toNat + hb) (encCode c m v.toNat ++ binMsb hb n.toNat)
    havenEncFrom c m bfn hb0 (havenBucket bfn hb0 n.toNat) rest bout

/-- XF.HAVENE with codec c (42_transforms.md R187). -/
def havenEnc (c : Codec) (s : State) : Except Err State := do
  requireHaven s
  requireBound c (boundArg s)
  let bout ← havenEncFrom c (boundArg s) (bfnField s.cfgHaven) (hb0Field s.cfgHaven) (hb0Field s.cfgHaven) s.sin s.bout
  pure { s with bout := bout, sin := [], res0 := BitVec.ofNat 32 s.sin.length }

/-- The loop of XF.HAVEND with bucket size hb (42_transforms.md R188). Each codeword has at least one bit, so |BIN|
rounds suffice. The adapted value of a codeword that does not fit an element raises ParseError 0x11
(41_universal_codes.md R126, 60_exceptions.md R321); an item out of range, DomainError 0x62 in SeqPush (log 10). -/
def havenDecFrom (c : Codec) (m bfn hb0 hb fuel : Nat) (b : Bits) (sout : List Int) (cnt : Nat) :
    Except Err (List Int × Nat) :=
  match decCode c m b with
  | .error .cleanEos => .ok (sout, cnt)
  | .error st => .error (stopErr (exhaustionErr 0x12#8 (.val 0)) b st)
  | .ok (r, rest) => do
    require (adaptOut1 c r < 2 ^ 31) (parseErr 0x11#8 (.val (adaptOut1 c r)))
    match readInto hb 0 rest with
    | .error _ => .error (parseErr 0x10#8 (.val cnt))
    | .ok (lo, rest) =>
      let n := (adaptOut1 c r).toNat * 2 ^ hb + lo
      let sout ← seqPush sout n
      match fuel with
      | 0 => pure (sout, cnt + 1)
      | fuel + 1 => havenDecFrom c m bfn hb0 (havenBucket bfn hb0 n) fuel rest sout (cnt + 1)

/-- XF.HAVEND with codec c (42_transforms.md R188). -/
def havenDec (c : Codec) (s : State) : Except Err State := do
  requireHaven s
  requireBound c (boundArg s)
  let (sout, cnt) ← havenDecFrom c (boundArg s) (bfnField s.cfgHaven) (hb0Field s.cfgHaven) (hb0Field s.cfgHaven)
    s.bin.length s.bin s.sout 0
  pure { s with bin := [], sout := sout, res0 := BitVec.ofNat 32 cnt }

/-- XF.HAVENE.UNARY (42_transforms.md R187). -/
def execXfHaveneUnary (s : State) : Host.Outcome State Fault Refusal := endCommand s (havenEnc .unary s)

/-- XF.HAVENE.GAMMA (42_transforms.md R187). -/
def execXfHaveneGamma (s : State) : Host.Outcome State Fault Refusal := endCommand s (havenEnc .gamma s)

/-- XF.HAVENE.DELTA (42_transforms.md R187). -/
def execXfHaveneDelta (s : State) : Host.Outcome State Fault Refusal := endCommand s (havenEnc .delta s)

/-- XF.HAVENE.FIB (42_transforms.md R187). -/
def execXfHaveneFib (s : State) : Host.Outcome State Fault Refusal := endCommand s (havenEnc .fib s)

/-- XF.HAVENE.TRIB (42_transforms.md R187). -/
def execXfHaveneTrib (s : State) : Host.Outcome State Fault Refusal := endCommand s (havenEnc .trib s)

/-- XF.HAVENE.ENB4 (42_transforms.md R187). -/
def execXfHaveneEnb4 (s : State) : Host.Outcome State Fault Refusal := endCommand s (havenEnc .enb4 s)

/-- XF.HAVENE.ENB5 (42_transforms.md R187). -/
def execXfHaveneEnb5 (s : State) : Host.Outcome State Fault Refusal := endCommand s (havenEnc .enb5 s)

/-- XF.HAVENE.ENB6 (42_transforms.md R187). -/
def execXfHaveneEnb6 (s : State) : Host.Outcome State Fault Refusal := endCommand s (havenEnc .enb6 s)

/-- XF.HAVENE.ENB7 (42_transforms.md R187). -/
def execXfHaveneEnb7 (s : State) : Host.Outcome State Fault Refusal := endCommand s (havenEnc .enb7 s)

/-- XF.HAVENE.ENB8 (42_transforms.md R187). -/
def execXfHaveneEnb8 (s : State) : Host.Outcome State Fault Refusal := endCommand s (havenEnc .enb8 s)

/-- XF.HAVENE.GFIB (42_transforms.md R187). -/
def execXfHaveneGfib (s : State) : Host.Outcome State Fault Refusal := endCommand s (havenEnc .gfib s)

/-- XF.HAVENE.DFIB (42_transforms.md R187). -/
def execXfHaveneDfib (s : State) : Host.Outcome State Fault Refusal := endCommand s (havenEnc .dfib s)

/-- XF.HAVENE.GIOTA (42_transforms.md R187). -/
def execXfHaveneGiota (s : State) : Host.Outcome State Fault Refusal := endCommand s (havenEnc .giota s)

/-- XF.HAVENE.DIOTA (42_transforms.md R187). -/
def execXfHaveneDiota (s : State) : Host.Outcome State Fault Refusal := endCommand s (havenEnc .diota s)

/-- XF.HAVEND.UNARY (42_transforms.md R188). -/
def execXfHavendUnary (s : State) : Host.Outcome State Fault Refusal := endCommand s (havenDec .unary s)

/-- XF.HAVEND.GAMMA (42_transforms.md R188). -/
def execXfHavendGamma (s : State) : Host.Outcome State Fault Refusal := endCommand s (havenDec .gamma s)

/-- XF.HAVEND.DELTA (42_transforms.md R188). -/
def execXfHavendDelta (s : State) : Host.Outcome State Fault Refusal := endCommand s (havenDec .delta s)

/-- XF.HAVEND.FIB (42_transforms.md R188). -/
def execXfHavendFib (s : State) : Host.Outcome State Fault Refusal := endCommand s (havenDec .fib s)

/-- XF.HAVEND.TRIB (42_transforms.md R188). -/
def execXfHavendTrib (s : State) : Host.Outcome State Fault Refusal := endCommand s (havenDec .trib s)

/-- XF.HAVEND.ENB4 (42_transforms.md R188). -/
def execXfHavendEnb4 (s : State) : Host.Outcome State Fault Refusal := endCommand s (havenDec .enb4 s)

/-- XF.HAVEND.ENB5 (42_transforms.md R188). -/
def execXfHavendEnb5 (s : State) : Host.Outcome State Fault Refusal := endCommand s (havenDec .enb5 s)

/-- XF.HAVEND.ENB6 (42_transforms.md R188). -/
def execXfHavendEnb6 (s : State) : Host.Outcome State Fault Refusal := endCommand s (havenDec .enb6 s)

/-- XF.HAVEND.ENB7 (42_transforms.md R188). -/
def execXfHavendEnb7 (s : State) : Host.Outcome State Fault Refusal := endCommand s (havenDec .enb7 s)

/-- XF.HAVEND.ENB8 (42_transforms.md R188). -/
def execXfHavendEnb8 (s : State) : Host.Outcome State Fault Refusal := endCommand s (havenDec .enb8 s)

/-- XF.HAVEND.GFIB (42_transforms.md R188). -/
def execXfHavendGfib (s : State) : Host.Outcome State Fault Refusal := endCommand s (havenDec .gfib s)

/-- XF.HAVEND.DFIB (42_transforms.md R188). -/
def execXfHavendDfib (s : State) : Host.Outcome State Fault Refusal := endCommand s (havenDec .dfib s)

/-- XF.HAVEND.GIOTA (42_transforms.md R188). -/
def execXfHavendGiota (s : State) : Host.Outcome State Fault Refusal := endCommand s (havenDec .giota s)

/-- XF.HAVEND.DIOTA (42_transforms.md R188). -/
def execXfHavendDiota (s : State) : Host.Outcome State Fault Refusal := endCommand s (havenDec .diota s)

/-! Ruler interlacing. -/

/-- The midpoints visited from a queue of intervals, each with the interval (a, b) that produced it
(42_transforms.md R191). -/
def rulerMids (fuel : Nat) (q : List (Nat × Nat)) : List (Nat × Nat × Nat) :=
  match fuel, q with
  | 0, _ => []
  | _, [] => []
  | fuel + 1, (a, b) :: rest =>
    if a + 2 ≤ b then
      let m := (a + b) / 2
      (m, a, b) :: rulerMids fuel (rest ++ [(a, m), (m, b)])
    else rulerMids fuel rest

/-- The visits of RulerOrder(l): each index with the interval that produced it, none for an endpoint. The queue gives
at most 2·l intervals (42_transforms.md R191). -/
def rulerVisits (l : Nat) : List (Nat × Option (Nat × Nat)) :=
  match l with
  | 0 => []
  | 1 => [(0, none)]
  | l + 2 =>
    (0, none) :: (l + 1, none) :: (rulerMids (2 * (l + 2)) [(0, l + 1)]).map (fun t => (t.1, some (t.2.1, t.2.2)))

/-- RulerOrder(l) (42_transforms.md R191). -/
def rulerOrder (l : Nat) : List Nat := (rulerVisits l).map Prod.fst

/-- The focus of a visit: 0 at the endpoints, else the rounded linear prediction from the interval's two ends
(42_transforms.md R190, R192). -/
def rulerFocus (xs : List Int) (t : Nat × Option (Nat × Nat)) : Int :=
  match t.2 with
  | none => 0
  | some (a, b) =>
    roundHalfEven ((xs.getD a 0 : Rat) + ((xs.getD b 0 : Rat) - xs.getD a 0) * ((t.1 : Rat) - a) / ((b : Rat) - a))

/-- The encoded sequence, in visiting order (42_transforms.md R192). -/
def rulerEnc (xs : List Int) : List Int :=
  (rulerVisits xs.length).map (fun t => focusedZigZag (xs.getD t.1 0) (rulerFocus xs t))

/-- The array of RULERD after the given visits (42_transforms.md R193). -/
def rulerDecFrom (ts : List (Nat × Option (Nat × Nat))) (us : List Int) (xs : List Int) : List Int :=
  match ts, us with
  | t :: ts, u :: us => rulerDecFrom ts us (xs.set t.1 (focusedUnZigZag u (rulerFocus xs t)))
  | _, _ => xs

/-- The decoded sequence, in index order (42_transforms.md R193). -/
def rulerDec (us : List Int) : List Int :=
  rulerDecFrom (rulerVisits us.length) us (List.replicate us.length 0)

/-- XF.RULERE (42_transforms.md R192). -/
def execXfRulere (s : State) : Host.Outcome State Fault Refusal :=
  endCommand s (xfSeq (fun xs sout => do
    xs.forM requireNonneg
    seqPushAll sout (rulerEnc xs)) s)

/-- XF.RULERD (42_transforms.md R193). -/
def execXfRulerd (s : State) : Host.Outcome State Fault Refusal :=
  endCommand s (xfSeq (fun us sout => do
    us.forM requireNonneg
    seqPushAll sout (rulerDec us)) s)

/-! Headings. -/

/-- The sorted list of distinct values (42_transforms.md R196). -/
def palette (xs : List Int) : List Int := xs.dedup.insertionSort (· ≤ ·)

/-- The palette heading: K, P[0], the steps, then each element's index (42_transforms.md R196). -/
def palEnc (xs : List Int) : List Int :=
  let p := palette xs
  (p.length : Int) ::
    ((match p with
      | [] => []
      | p0 :: rest => p0 :: deltaEnc p0 rest)
    ++ xs.map (fun x => (p.idxOf x : Int)))

/-- XF.PALE (42_transforms.md R196). -/
def execXfPale (s : State) : Host.Outcome State Fault Refusal :=
  endCommand s (xfSeq (fun xs sout => seqPushAll sout (palEnc xs)) s)

/-- The palette values after `prev`, from steps that must be > 0; t is the step's index (42_transforms.md R197). -/
def palSteps (t : Nat) (prev : Int) (steps : List Int) : Except Err (List Int) :=
  match steps with
  | [] => .ok []
  | d :: rest => do
    require (0 < d) (parseErr 0x15#8 (.val t))
    let tail ← palSteps (t + 1) (prev + d) rest
    pure ((prev + d) :: tail)

/-- The palette of an encoded sequence whose first element is K = k (42_transforms.md R197). -/
def palRead (k : Nat) (es : List Int) : Except Err (List Int) :=
  if k = 0 then .ok []
  else do
    let tail ← palSteps 1 (es.getD 1 0) ((es.drop 2).take (k - 1))
    pure (es.getD 1 0 :: tail)

/-- One index of XF.PALD: check, then push P[e] (42_transforms.md R197). -/
def palPush (p : List Int) (k : Int) (sout : List Int) (e : Int) : Except Err (List Int) := do
  require (0 ≤ e ∧ e < k) (parseErr 0x15#8 (.val e))
  seqPush sout (p.getD e.toNat 0)

/-- XF.PALD (42_transforms.md R197). -/
def execXfPald (s : State) : Host.Outcome State Fault Refusal :=
  endCommand s (xfSeq (fun es sout =>
    match es with
    | [] => .error (parseErr 0x15#8 (.val 0))
    | k :: _ => do
      require (0 ≤ k ∧ 1 + k ≤ es.length) (parseErr 0x15#8 (.val 0))
      let p ← palRead k.toNat es
      (es.drop (1 + k.toNat)).foldlM (palPush p k) sout) s)

/-- min(xs) of a non-empty list x :: xs (42_transforms.md R198). -/
def listMin (x : Int) (xs : List Int) : Int := xs.foldl min x

/-- XF.FLRE (42_transforms.md R198). -/
def execXfFlre (s : State) : Host.Outcome State Fault Refusal :=
  endCommand s (xfSeq (fun xs sout =>
    match xs with
    | [] => .ok sout
    | x :: rest => seqPushAll sout (listMin x rest :: (x :: rest).map (fun e => e - listMin x rest))) s)

/-- One residual of XF.FLRD or XF.MEDD: check, then push (42_transforms.md R199, R201). -/
def residualPush (g : Int → Int) (sout : List Int) (e : Int) : Except Err (List Int) := do
  require (0 ≤ e) (parseErr 0x15#8 (.val e))
  seqPush sout (g e)

/-- XF.FLRD (42_transforms.md R199). -/
def execXfFlrd (s : State) : Host.Outcome State Fault Refusal :=
  endCommand s (xfSeq (fun es sout =>
    match es with
    | [] => .ok sout
    | f :: rest => rest.foldlM (residualPush (fun e => e + f)) sout) s)

/-- The lower median sorted(xs)[(L-1) div 2] (42_transforms.md R200). -/
def lowerMedian (xs : List Int) : Int := (xs.insertionSort (· ≤ ·)).getD ((xs.length - 1) / 2) 0

/-- XF.MEDE (42_transforms.md R200). -/
def execXfMede (s : State) : Host.Outcome State Fault Refusal :=
  endCommand s (xfSeq (fun xs sout =>
    match xs with
    | [] => .ok sout
    | x :: rest =>
      seqPushAll sout (lowerMedian (x :: rest) :: (x :: rest).map (fun e => zigZag (e - lowerMedian (x :: rest))))) s)

/-- XF.MEDD (42_transforms.md R201). -/
def execXfMedd (s : State) : Host.Outcome State Fault Refusal :=
  endCommand s (xfSeq (fun es sout =>
    match es with
    | [] => .ok sout
    | m :: rest => rest.foldlM (residualPush (fun e => unZigZag e + m)) sout) s)

end Sys2Proof.Machine
end

