-- ==== Sys2Proof/Machine/Dispatch.lean ====
section
/-! DEFINITION. The meaning of each command: one arm for each constructor, one direct call. -/

namespace Sys2Proof.Machine

def exec (i : Instr) (s : State) : Host.Outcome State Fault Refusal :=
  match i with
  | .ctlNop => Sys2Proof.Machine.execCtlNop s
  | .ctlSreset => Sys2Proof.Machine.execCtlSreset s
  | .ctlFlush m => Sys2Proof.Machine.execCtlFlush m s
  | .ctlCinv => Sys2Proof.Machine.execCtlCinv s
  | .encUnary d => Sys2Proof.Machine.execEncUnary d s
  | .encGamma d => Sys2Proof.Machine.execEncGamma d s
  | .encDelta d => Sys2Proof.Machine.execEncDelta d s
  | .encFib d => Sys2Proof.Machine.execEncFib d s
  | .encTrib d => Sys2Proof.Machine.execEncTrib d s
  | .encEnb4 d => Sys2Proof.Machine.execEncEnb4 d s
  | .encEnb5 d => Sys2Proof.Machine.execEncEnb5 d s
  | .encEnb6 d => Sys2Proof.Machine.execEncEnb6 d s
  | .encEnb7 d => Sys2Proof.Machine.execEncEnb7 d s
  | .encEnb8 d => Sys2Proof.Machine.execEncEnb8 d s
  | .encGfib d => Sys2Proof.Machine.execEncGfib d s
  | .encDfib d => Sys2Proof.Machine.execEncDfib d s
  | .encGiota d => Sys2Proof.Machine.execEncGiota d s
  | .encDiota d => Sys2Proof.Machine.execEncDiota d s
  | .decUnary d => Sys2Proof.Machine.execDecUnary d s
  | .decGamma d => Sys2Proof.Machine.execDecGamma d s
  | .decDelta d => Sys2Proof.Machine.execDecDelta d s
  | .decFib d => Sys2Proof.Machine.execDecFib d s
  | .decTrib d => Sys2Proof.Machine.execDecTrib d s
  | .decEnb4 d => Sys2Proof.Machine.execDecEnb4 d s
  | .decEnb5 d => Sys2Proof.Machine.execDecEnb5 d s
  | .decEnb6 d => Sys2Proof.Machine.execDecEnb6 d s
  | .decEnb7 d => Sys2Proof.Machine.execDecEnb7 d s
  | .decEnb8 d => Sys2Proof.Machine.execDecEnb8 d s
  | .decGfib d => Sys2Proof.Machine.execDecGfib d s
  | .decDfib d => Sys2Proof.Machine.execDecDfib d s
  | .decGiota d => Sys2Proof.Machine.execDecGiota d s
  | .decDiota d => Sys2Proof.Machine.execDecDiota d s
  | .encseqUnary d => Sys2Proof.Machine.execEncseqUnary d s
  | .encseqGamma d => Sys2Proof.Machine.execEncseqGamma d s
  | .encseqDelta d => Sys2Proof.Machine.execEncseqDelta d s
  | .encseqFib d => Sys2Proof.Machine.execEncseqFib d s
  | .encseqTrib d => Sys2Proof.Machine.execEncseqTrib d s
  | .encseqEnb4 d => Sys2Proof.Machine.execEncseqEnb4 d s
  | .encseqEnb5 d => Sys2Proof.Machine.execEncseqEnb5 d s
  | .encseqEnb6 d => Sys2Proof.Machine.execEncseqEnb6 d s
  | .encseqEnb7 d => Sys2Proof.Machine.execEncseqEnb7 d s
  | .encseqEnb8 d => Sys2Proof.Machine.execEncseqEnb8 d s
  | .encseqGfib d => Sys2Proof.Machine.execEncseqGfib d s
  | .encseqDfib d => Sys2Proof.Machine.execEncseqDfib d s
  | .encseqGiota d => Sys2Proof.Machine.execEncseqGiota d s
  | .encseqDiota d => Sys2Proof.Machine.execEncseqDiota d s
  | .decseqUnary d => Sys2Proof.Machine.execDecseqUnary d s
  | .decseqGamma d => Sys2Proof.Machine.execDecseqGamma d s
  | .decseqDelta d => Sys2Proof.Machine.execDecseqDelta d s
  | .decseqFib d => Sys2Proof.Machine.execDecseqFib d s
  | .decseqTrib d => Sys2Proof.Machine.execDecseqTrib d s
  | .decseqEnb4 d => Sys2Proof.Machine.execDecseqEnb4 d s
  | .decseqEnb5 d => Sys2Proof.Machine.execDecseqEnb5 d s
  | .decseqEnb6 d => Sys2Proof.Machine.execDecseqEnb6 d s
  | .decseqEnb7 d => Sys2Proof.Machine.execDecseqEnb7 d s
  | .decseqEnb8 d => Sys2Proof.Machine.execDecseqEnb8 d s
  | .decseqGfib d => Sys2Proof.Machine.execDecseqGfib d s
  | .decseqDfib d => Sys2Proof.Machine.execDecseqDfib d s
  | .decseqGiota d => Sys2Proof.Machine.execDecseqGiota d s
  | .decseqDiota d => Sys2Proof.Machine.execDecseqDiota d s
  | .xfDeltae => Sys2Proof.Machine.execXfDeltae s
  | .xfDeltad => Sys2Proof.Machine.execXfDeltad s
  | .xfZze => Sys2Proof.Machine.execXfZze s
  | .xfZzd => Sys2Proof.Machine.execXfZzd s
  | .xfFzze => Sys2Proof.Machine.execXfFzze s
  | .xfFzzd => Sys2Proof.Machine.execXfFzzd s
  | .xfHaveneUnary => Sys2Proof.Machine.execXfHaveneUnary s
  | .xfHaveneGamma => Sys2Proof.Machine.execXfHaveneGamma s
  | .xfHaveneDelta => Sys2Proof.Machine.execXfHaveneDelta s
  | .xfHaveneFib => Sys2Proof.Machine.execXfHaveneFib s
  | .xfHaveneTrib => Sys2Proof.Machine.execXfHaveneTrib s
  | .xfHaveneEnb4 => Sys2Proof.Machine.execXfHaveneEnb4 s
  | .xfHaveneEnb5 => Sys2Proof.Machine.execXfHaveneEnb5 s
  | .xfHaveneEnb6 => Sys2Proof.Machine.execXfHaveneEnb6 s
  | .xfHaveneEnb7 => Sys2Proof.Machine.execXfHaveneEnb7 s
  | .xfHaveneEnb8 => Sys2Proof.Machine.execXfHaveneEnb8 s
  | .xfHaveneGfib => Sys2Proof.Machine.execXfHaveneGfib s
  | .xfHaveneDfib => Sys2Proof.Machine.execXfHaveneDfib s
  | .xfHaveneGiota => Sys2Proof.Machine.execXfHaveneGiota s
  | .xfHaveneDiota => Sys2Proof.Machine.execXfHaveneDiota s
  | .xfHavendUnary => Sys2Proof.Machine.execXfHavendUnary s
  | .xfHavendGamma => Sys2Proof.Machine.execXfHavendGamma s
  | .xfHavendDelta => Sys2Proof.Machine.execXfHavendDelta s
  | .xfHavendFib => Sys2Proof.Machine.execXfHavendFib s
  | .xfHavendTrib => Sys2Proof.Machine.execXfHavendTrib s
  | .xfHavendEnb4 => Sys2Proof.Machine.execXfHavendEnb4 s
  | .xfHavendEnb5 => Sys2Proof.Machine.execXfHavendEnb5 s
  | .xfHavendEnb6 => Sys2Proof.Machine.execXfHavendEnb6 s
  | .xfHavendEnb7 => Sys2Proof.Machine.execXfHavendEnb7 s
  | .xfHavendEnb8 => Sys2Proof.Machine.execXfHavendEnb8 s
  | .xfHavendGfib => Sys2Proof.Machine.execXfHavendGfib s
  | .xfHavendDfib => Sys2Proof.Machine.execXfHavendDfib s
  | .xfHavendGiota => Sys2Proof.Machine.execXfHavendGiota s
  | .xfHavendDiota => Sys2Proof.Machine.execXfHavendDiota s
  | .xfTsume => Sys2Proof.Machine.execXfTsume s
  | .xfTsumd => Sys2Proof.Machine.execXfTsumd s
  | .xfRulere => Sys2Proof.Machine.execXfRulere s
  | .xfRulerd => Sys2Proof.Machine.execXfRulerd s
  | .xfPale => Sys2Proof.Machine.execXfPale s
  | .xfPald => Sys2Proof.Machine.execXfPald s
  | .xfFlre => Sys2Proof.Machine.execXfFlre s
  | .xfFlrd => Sys2Proof.Machine.execXfFlrd s
  | .xfMede => Sys2Proof.Machine.execXfMede s
  | .xfMedd => Sys2Proof.Machine.execXfMedd s
  | .catInit => Sys2Proof.Machine.execCatInit s
  | .catCount => Sys2Proof.Machine.execCatCount s
  | .catStatus => Sys2Proof.Machine.execCatStatus s
  | .catElim => Sys2Proof.Machine.execCatElim s
  | .catElimcol => Sys2Proof.Machine.execCatElimcol s
  | .catImpmin => Sys2Proof.Machine.execCatImpmin s
  | .catImpmax => Sys2Proof.Machine.execCatImpmax s
  | .catExtreme => Sys2Proof.Machine.execCatExtreme s
  | .catClamp => Sys2Proof.Machine.execCatClamp s
  | .catLimits => Sys2Proof.Machine.execCatLimits s
  | .splInit => Sys2Proof.Machine.execSplInit s
  | .splSet => Sys2Proof.Machine.execSplSet s
  | .splPred => Sys2Proof.Machine.execSplPred s
  | .splSurr => Sys2Proof.Machine.execSplSurr s
  | .splBone => Sys2Proof.Machine.execSplBone s
  | .splPredall => Sys2Proof.Machine.execSplPredall s
  | .cerInit => Sys2Proof.Machine.execCerInit s
  | .cerRun => Sys2Proof.Machine.execCerRun s
  | .cerBlock => Sys2Proof.Machine.execCerBlock s
  | .cerFill => Sys2Proof.Machine.execCerFill s
  | .cerPress => Sys2Proof.Machine.execCerPress s
  | .cerPlain => Sys2Proof.Machine.execCerPlain s
  | .cerEncblk => Sys2Proof.Machine.execCerEncblk s
  | .cerDecblk => Sys2Proof.Machine.execCerDecblk s
  | .cerScore => Sys2Proof.Machine.execCerScore s

end Sys2Proof.Machine
end

