-- ==== Sys2Proof/Machine/HostPort.lean ====
section
/-! DEFINITION. The register window: what a host read and a host write do, while the block is IDLE and while a command
runs (20_memory.md R60..R69, R75, 70_reset_and_hazards.md R351, R360). -/

namespace Sys2Proof.Machine

/-- The registers of the window (20_memory.md R61). -/
inductive Reg where
  | cmd | status | errCmd | errInfo | errSub | id
  | arg0 | arg1 | arg2 | arg3
  | res0 | res1
  | cfgN | cfgV | cfgMethod | cfgCodec | cfgIotaMax | cfgHaven | cfgCache
  | binPush | binCnt | boutPop | boutCnt | sinPush | sinCnt | soutPop | soutCnt
  | dbgPhase | dbgS | dbgRunIdx | dbgElims | dbgHits | dbgRankCnt
  deriving DecidableEq, Repr

/-- The register at a byte offset, none for a reserved offset (20_memory.md R61). -/
def regAt (off : Nat) : Option Reg :=
  match off with
  | 0x00 => some .cmd
  | 0x04 => some .status
  | 0x08 => some .errCmd
  | 0x0C => some .errInfo
  | 0x10 => some .errSub
  | 0x14 => some .id
  | 0x20 => some .arg0
  | 0x24 => some .arg1
  | 0x28 => some .arg2
  | 0x2C => some .arg3
  | 0x30 => some .res0
  | 0x34 => some .res1
  | 0x40 => some .cfgN
  | 0x44 => some .cfgV
  | 0x48 => some .cfgMethod
  | 0x4C => some .cfgCodec
  | 0x50 => some .cfgIotaMax
  | 0x54 => some .cfgHaven
  | 0x58 => some .cfgCache
  | 0x60 => some .binPush
  | 0x64 => some .binCnt
  | 0x68 => some .boutPop
  | 0x6C => some .boutCnt
  | 0x70 => some .sinPush
  | 0x74 => some .sinCnt
  | 0x78 => some .soutPop
  | 0x7C => some .soutCnt
  | 0x80 => some .dbgPhase
  | 0x84 => some .dbgS
  | 0x88 => some .dbgRunIdx
  | 0x8C => some .dbgElims
  | 0x90 => some .dbgHits
  | 0x94 => some .dbgRankCnt
  | _ => none

/-- The code of CER.PHASE (10_state.md R38). -/
def phaseCode (p : Phase) : Nat :=
  match p with
  | .idle => 0
  | .active => 1
  | .done => 2
  | .failed => 3

/-- The code of CER.MODE (10_state.md R38). -/
def modeCode (m : Mode) : Nat :=
  match m with
  | .encode => 0
  | .decode => 1

/-- DBG_PHASE: CER.PHASE in bits 1:0, CER.MODE in bit 2 (10_state.md R33). -/
def dbgPhaseWord (c : Cer) : Word := BitVec.ofNat 32 (phaseCode c.phase + 4 * modeCode c.mode)

/-- An access the window defines: 4 bytes at a multiple of 4 (20_memory.md R75). -/
def accessOk (off : BitVec 8) (width : Nat) : Bool := width == 4 && off.toNat % 4 == 0

/-- The end of a host read: the word it returned (log 1). -/
def returned (v : Word) (s : State) : State := { s with rdata := v }

/-- A host read that returns a value in the middle of a command, a free value (log 4). -/
def returnedFree (pick : Nat → Word) (s : State) : State := { s with rdata := pick s.free, free := s.free + 1 }

/-- A read of BOUT_POP by an IDLE block (20_memory.md R65). -/
def popBout (s : State) : State :=
  match s.bout with
  | [] => returned 0#32 { s with status := statusPortErr s.status }
  | b :: rest => returned (BitVec.ofNat 32 b.toNat) { s with bout := rest }

/-- A read of SOUT_POP by an IDLE block (20_memory.md R67). -/
def popSout (s : State) : State :=
  match s.sout with
  | [] => returned 0#32 { s with status := statusPortErr s.status }
  | e :: rest => returned (pattern e) { s with sout := rest }

/-- A host read of a register while SEQ = IDLE (20_memory.md R61..R68). Only the two pops change the block; every other
read gives the same value when it is made again (R77), also that of a write-only port (log 5). -/
def readIdle (r : Reg) (s : State) : State :=
  match r with
  | .cmd => returned s.cur s
  | .status => returned (statusWord s.status) s
  | .errCmd => returned s.errCmd s
  | .errInfo => returned s.errInfo s
  | .errSub => returned (s.errSub.zeroExtend 32) s
  | .id => returned Config.idWord s
  | .arg0 => returned s.arg0 s
  | .arg1 => returned s.arg1 s
  | .arg2 => returned s.arg2 s
  | .arg3 => returned s.arg3 s
  | .res0 => returned s.res0 s
  | .res1 => returned s.res1 s
  | .cfgN => returned s.cfgN s
  | .cfgV => returned s.cfgV s
  | .cfgMethod => returned s.cfgMethod s
  | .cfgCodec => returned s.cfgCodec s
  | .cfgIotaMax => returned s.cfgIotaMax s
  | .cfgHaven => returned s.cfgHaven s
  | .cfgCache => returned s.cfgCache s
  | .binPush => returned (Config.writeOnlyRead 0x60) s
  | .binCnt => returned (BitVec.ofNat 32 s.bin.length) s
  | .boutPop => popBout s
  | .boutCnt => returned (BitVec.ofNat 32 s.bout.length) s
  | .sinPush => returned (Config.writeOnlyRead 0x70) s
  | .sinCnt => returned (BitVec.ofNat 32 s.sin.length) s
  | .soutPop => popSout s
  | .soutCnt => returned (BitVec.ofNat 32 s.sout.length) s
  | .dbgPhase => returned (dbgPhaseWord s.cer) s
  | .dbgS => returned (BitVec.ofNat 32 s.cer.s) s
  | .dbgRunIdx => returned (BitVec.ofNat 32 s.cer.runIndex) s
  | .dbgElims => returned (BitVec.ofNat 32 s.cer.elims) s
  | .dbgHits => returned (BitVec.ofNat 32 s.cer.hits) s
  | .dbgRankCnt => returned (BitVec.ofNat 32 s.cer.rank.length) s

/-- A host access turned away because a command runs: STATUS.OVR <- 1 (70_reset_and_hazards.md R360). DEDUCED (log 31):
OVR alone, and not PORTERR, also for a pop of an empty FIFO or a push to a full one. -/
def overrun (s : State) : State := { s with status := statusOvr s.status }

/-- A host read of a register while BUSY = 1 (70_reset_and_hazards.md R360): the pops return 0 and set OVR, and OVR
alone even when the FIFO is empty (DEDUCED, log 31: 20_memory.md R65 and R67 set PORTERR at an empty FIFO without saying
that SEQ = IDLE); RES0, RES1, the FIFO counts and the debug registers give a free value (log 4); every other register
gives the value it holds. -/
def readBusy (r : Reg) (s : State) : State :=
  match r with
  | .boutPop => returned 0#32 (overrun s)
  | .soutPop => returned 0#32 (overrun s)
  | .res0 => returnedFree Config.midCommandRead s
  | .res1 => returnedFree Config.midCommandRead s
  | .binCnt => returnedFree Config.midCommandRead s
  | .boutCnt => returnedFree Config.midCommandRead s
  | .sinCnt => returnedFree Config.midCommandRead s
  | .soutCnt => returnedFree Config.midCommandRead s
  | .dbgPhase => returnedFree Config.midCommandRead s
  | .dbgS => returnedFree Config.midCommandRead s
  | .dbgRunIdx => returnedFree Config.midCommandRead s
  | .dbgElims => returnedFree Config.midCommandRead s
  | .dbgHits => returnedFree Config.midCommandRead s
  | .dbgRankCnt => returnedFree Config.midCommandRead s
  | r => readIdle r s

/-- A host write of CMD while SEQ = IDLE: the command word is latched and the command starts (20_memory.md R62). -/
def startCommand (v : Word) (s : State) : State := { s with cur := v, seq := .busy, status := statusStart s.status }

/-- A host write of BIN_PUSH while SEQ = IDLE (20_memory.md R64). -/
def pushBin (v : Word) (s : State) : State :=
  if s.bin.length < Config.bitCap then { s with bin := s.bin ++ [v.getLsbD 0] }
  else { s with status := statusPortErr s.status }

/-- A host write of SIN_PUSH while SEQ = IDLE (20_memory.md R66). -/
def pushSin (v : Word) (s : State) : State :=
  if s.sin.length < Config.seqCap then { s with sin := s.sin ++ [sext v] }
  else { s with status := statusPortErr s.status }

/-- A host write of a register while SEQ = IDLE; a write of a read-only register is ignored, reserved bits of a
configuration register stay 0 (20_memory.md R61..R69). -/
def writeIdle (r : Reg) (v : Word) (s : State) : State :=
  match r with
  | .cmd => startCommand v s
  | .status => { s with status := statusW1C v s.status }
  | .arg0 => { s with arg0 := v }
  | .arg1 => { s with arg1 := v }
  | .arg2 => { s with arg2 := v }
  | .arg3 => { s with arg3 := v }
  | .cfgN => { s with cfgN := v }
  | .cfgV => { s with cfgV := v }
  | .cfgMethod => { s with cfgMethod := v &&& cfgMethodMask }
  | .cfgCodec => { s with cfgCodec := v &&& cfgCodecMask }
  | .cfgIotaMax => { s with cfgIotaMax := v }
  | .cfgHaven => { s with cfgHaven := v &&& cfgHavenMask }
  | .cfgCache => { s with cfgCache := v &&& cfgCacheMask }
  | .binPush => pushBin v s
  | .sinPush => pushSin v s
  | .errCmd => s
  | .errInfo => s
  | .errSub => s
  | .id => s
  | .res0 => s
  | .res1 => s
  | .binCnt => s
  | .boutPop => s
  | .boutCnt => s
  | .sinCnt => s
  | .soutPop => s
  | .soutCnt => s
  | .dbgPhase => s
  | .dbgS => s
  | .dbgRunIdx => s
  | .dbgElims => s
  | .dbgHits => s
  | .dbgRankCnt => s

/-- The registers whose write is an overrun while a command runs (70_reset_and_hazards.md R360). -/
def overrunsOnWrite (r : Reg) : Bool :=
  match r with
  | .cmd | .arg0 | .arg1 | .arg2 | .arg3 => true
  | .cfgN | .cfgV | .cfgMethod | .cfgCodec | .cfgIotaMax | .cfgHaven | .cfgCache => true
  | .binPush | .sinPush => true
  | _ => false

/-- A host write of a register while BUSY = 1 (70_reset_and_hazards.md R360, 20_memory.md R63, R69). -/
def writeBusy (r : Reg) (v : Word) (s : State) : State := if overrunsOnWrite r then overrun s else writeIdle r v s

/-- A host read of an offset (20_memory.md R61, R69, R75). -/
def hostRead (off : BitVec 8) (width : Nat) (s : State) : State :=
  if accessOk off width then
    match regAt off.toNat with
    | none => returned 0#32 s
    | some r =>
      match s.seq with
      | .idle => readIdle r s
      | .busy => readBusy r s
  else returned 0#32 { s with status := statusPortErr s.status }

/-- A host write of an offset (20_memory.md R61, R69, R75). -/
def hostWrite (off : BitVec 8) (width : Nat) (v : Word) (s : State) : State :=
  if accessOk off width then
    match regAt off.toNat with
    | none => s
    | some r =>
      match s.seq with
      | .idle => writeIdle r v s
      | .busy => writeBusy r v s
  else { s with status := statusPortErr s.status }

/-- The hardware reset input: every piece of the block's state at its reset value (70_reset_and_hazards.md R351). The
model's own fields are no state of the block and stay (log 24). -/
def hardReset (s : State) : State := { State.reset with host := s.host, rdata := s.rdata, free := s.free }

/-- One access of the outside world. -/
def hostAccess (a : HostAccess) (s : State) : State :=
  match a with
  | .read off width => hostRead off width s
  | .write off width v => hostWrite off width v s
  | .reset => hardReset s

end Sys2Proof.Machine
end

