-- ==== Sys2Proof/Machine/Sequencer.lean ====
section
/-! DEFINITION. The command sequencer: which of a host access and the latched command acts next (10_state.md R20, R21,
20_memory.md R62, R78). -/

namespace Sys2Proof.Machine

/-- The latched command, decoded and run to its end, or refused as an illegal command (30_encoding.md R91). -/
def runLatched (s : State) : Host.Outcome State Fault Refusal :=
  match decode s.cur with
  | .ok i => exec i s
  | .error e => .next (raiseError (illegalErr e.sub (.val (zext s.cur))) s)

/-- The oldest host access that may act now: any while IDLE, only an early one while a command runs (log 3). -/
def hostTurn (s : State) : Option (HostAccess × List HostEvent) :=
  match s.host with
  | [] => none
  | ev :: rest => if s.seq = .idle || ev.early then some (ev.access, rest) else none

/-- One step: a host access, else the latched command, else nothing: an IDLE block keeps its state
(60_exceptions.md R345). -/
def sequencerStep (s : State) : Host.Outcome State Fault Refusal :=
  match hostTurn s with
  | some (a, rest) => .next (hostAccess a { s with host := rest })
  | none =>
    match s.seq with
    | .idle => .next s
    | .busy => runLatched s

/-- The accesses to come, each made to wait until the command has run. -/
def waiting (events : List HostEvent) : List HostEvent := events.map (fun ev => { ev with early := false })

/-- The state a CMD write of a word leaves in an IDLE block, with no access landing before the command has run
(20_memory.md R62; log 2). -/
def latchWord (w : Word) (s : State) : State := startCommand w { s with host := waiting s.host }

end Sys2Proof.Machine
end

