-- ==== Sys2Proof/Machine/Step.lean ====
section
/-! DEFINITION. The step function and the placing of a command word (log 2). -/

namespace Sys2Proof.Machine

/-- One step of the block (10_state.md R20). -/
def step (s : State) : Host.Outcome State Fault Refusal := sequencerStep s

/-- The state in which the very next step runs the command word w: CUR holds it and SEQ = BUSY, as after the host's
write of CMD (20_memory.md R62; log 2). A command has one word of 32 bits. -/
def State.withFetchWord (s : State) (nbits w : Nat) : State := latchWord (BitVec.ofNat 32 (w % 2 ^ nbits)) s

end Sys2Proof.Machine
end

