-- ==== Sys2Proof/Safety.lean ====
section
/-! DEFINITION. What counts as a sound state and a safe run of the CER core block, in the terms the statements use. -/

namespace Sys2Proof.Machine

/-! Runs. -/

/-- A state that a run of the machine from another state passes through. -/
inductive Reaches : State → State → Prop where
  | refl (s : State) : Reaches s s
  | tail {s t u : State} : Reaches s t → step t = .next u → Reaches s u

/-- A safe run never stops: every state it passes through has a next state. -/
def SafeFrom (s : State) : Prop := ∀ t, Reaches s t → ∃ u, step t = .next u

/-- The oldest host access, if any, waits for the running command (log 3). -/
def Quiet (s : State) : Prop := ∀ ev ∈ s.host.head?, ev.early = false

/-- An access that the next step performs: the oldest one, early if a command runs. -/
def ActsNext (a : HostAccess) (rest : List HostEvent) (s : State) : Prop :=
  ∃ b, s.host = { early := b, access := a } :: rest ∧ (s.seq = .idle ∨ b = true)

/-! Registers and status. -/

/-- The reserved bits of the configuration registers are 0 (10_state.md R28..R32, 20_memory.md R69). -/
def ReservedZero (s : State) : Prop :=
  s.cfgMethod &&& cfgMethodMask = s.cfgMethod ∧ s.cfgCodec &&& cfgCodecMask = s.cfgCodec
    ∧ s.cfgHaven &&& cfgHavenMask = s.cfgHaven ∧ s.cfgCache &&& cfgCacheMask = s.cfgCache

/-- BUSY is 1 exactly while a command executes, and then DONE, NOCHG and ERR are 0; DONE excludes an error kind, and
NOCHG comes with DONE (20_memory.md R62, 60_exceptions.md R320, R323). -/
def StatusOk (s : State) : Prop :=
  (s.seq = .busy ↔ s.status.busy = true)
    ∧ (s.status.busy = true → s.status.done = false ∧ s.status.nochg = false ∧ s.status.err = none)
    ∧ (s.status.done = true → s.status.err = none)
    ∧ (s.status.nochg = true → s.status.done = true)

/-- The registers as a command finds them when it starts (20_memory.md R62). -/
def Started (s : State) : Prop :=
  s.seq = .busy ∧ s.status.busy = true ∧ s.status.done = false ∧ s.status.nochg = false ∧ s.status.err = none

/-- The four streams are within their capacities and element range (10_state.md R34). -/
def StreamsOk (s : State) : Prop :=
  s.bin.length ≤ Config.bitCap ∧ s.bout.length ≤ Config.bitCap
    ∧ s.sin.length ≤ Config.seqCap ∧ s.sout.length ≤ Config.seqCap
    ∧ (∀ e ∈ s.sin, inElemRange e) ∧ (∀ e ∈ s.sout, inElemRange e)

/-! Catalogue and Spline. -/

/-- A legal geometry (00_scope.md R7, 10_state.md R27). -/
def GeometryOk (n v : Nat) : Prop := 2 ≤ n ∧ n ≤ Config.nMax ∧ 2 ≤ v ∧ v ≤ Config.vMax

/-- One column of a catalogue with value range v (10_state.md R37, 43_catalogue.md R212, R214). -/
def ColumnOk (v : Nat) (c : Column) : Prop :=
  -1 ≤ c.lo ∧ c.lo + 2 ≤ c.hi ∧ c.hi ≤ v ∧ (c.rsv = true → c.hi = c.lo + 2)

/-- The catalogue's invariant (10_state.md R37). -/
def CatOk (cat : Catalogue) : Prop :=
  cat.cols.length = cat.n ∧ (cat.valid = true → GeometryOk cat.n cat.v) ∧ ∀ c ∈ cat.cols, ColumnOk cat.v c

/-- A method word CheckMethod accepts (44_spline.md R240). -/
def MethodOk (cfg : Word) : Prop :=
  methodField cfg ≤ 5 ∧ nfiltField cfg ≤ 4 ∧ (methodField cfg = 5 → idwpField cfg ≠ 0 ∧ idwdField cfg < 2)

/-- A bone array of N entries, each null or in [0, V), with both endpoint bones present (10_state.md R35). -/
def BonesOk (n v : Nat) (bones : List (Option Int)) : Prop :=
  bones.length = n ∧ boneAt bones 0 ≠ none ∧ boneAt bones (n - 1) ≠ none
    ∧ ∀ x y, boneAt bones x = some y → 0 ≤ y ∧ y < v

/-- The invariants of an initialised Spline: bones, configuration, LOC and DIST (10_state.md R35, R36, 44_spline.md
R264, R265). -/
def SplineOk (spl : Spline) : Prop :=
  spl.valid = true →
    GeometryOk spl.n spl.v ∧ MethodOk spl.cfg ∧ BonesOk spl.n spl.v spl.bones
      ∧ spl.loc = (if spl.locPol = .nearby then (List.range spl.n).map (nearestBone spl.bones) else [])
      ∧ spl.dist = (if spl.locPol = .distance then
          (List.range spl.n).map (fun x => (nearestBone spl.bones x).map (absDist x)) else [])

/-- The value cache is held in strict (key, x) order within its capacity, and only while it is enabled (10_state.md
R36). -/
def CacheFormOk (spl : Spline) : Prop :=
  spl.vc.Pairwise (fun a b => vcLt a b = true) ∧ spl.vc.length ≤ Config.vcCap ∧ (spl.vcEn = false → spl.vc = [])

/-- Every cached prediction is right for its key: at every bone array in which that x has that key (44_spline.md R263,
R266, R267). -/
def CacheValuesOk (spl : Spline) : Prop :=
  spl.valid = true → ∀ e ∈ spl.vc, ∀ bones, e.x < spl.n → BonesOk spl.n spl.v bones → boneAt bones e.x = none →
    surroundKeyOf spl.n spl.v (surroundings bones e.x) = e.key →
    e.value = purePredict { spl with bones := bones } e.x

/-! The CER block. -/

/-- The rankings are held in strict key order (10_state.md R39). -/
def RankSorted (rank : List RankEntry) : Prop := rank.Pairwise (fun a b => rankLt a b = true)

/-- A cell is in the rankings. -/
def Ranked (rank : List RankEntry) (x : Nat) (y : Int) : Prop := ∃ e ∈ rank, e.x = x ∧ e.y = y

/-- Column x is unresolved. -/
def Unresolved (cat : Catalogue) (x : Nat) : Prop := x < cat.n ∧ (columnAt cat x).rsv = false

/-- The rankings invariant: the ranked cells are the frontier cells of the unresolved columns, each in one entry, and
every unresolved column has at least two UNKNOWN cells (45_cer.md R291, 10_state.md R39). -/
def RankingsOk (s : State) : Prop :=
  (∀ x y, Ranked s.cer.rank x y ↔
      Unresolved s.cat x ∧ (y = (columnAt s.cat x).lo + 1 ∨ y = (columnAt s.cat x).hi - 1))
    ∧ (∀ e ∈ s.cer.rank, ∀ f ∈ s.cer.rank, e.x = f.x → e.y = f.y → e = f)
    ∧ ∀ x, Unresolved s.cat x → 2 ≤ unknownCount (columnAt s.cat x)

/-- The eliminations that the unresolved columns still allow (45_cer.md R293). -/
def remainingElims (cat : Catalogue) : Int :=
  ((cat.cols.filter (fun c => !c.rsv)).map (fun c => unknownCount c - 1)).sum

/-- The samples of an ACTIVE block agree with the catalogue and the bones: a resolved column's value is its bone and its
sample; an unresolved column has no bone, and in encode its sample is an UNKNOWN cell, in decode it is null
(45_cer.md R287, R289, R290). -/
def SamplesOk (s : State) : Prop :=
  s.cer.plain.length = s.cer.n
    ∧ ∀ x, x < s.cer.n →
      if (columnAt s.cat x).rsv then
        boneAt s.spl.bones x = some ((columnAt s.cat x).lo + 1) ∧ plainAt s.cer.plain x = some ((columnAt s.cat x).lo + 1)
      else
        boneAt s.spl.bones x = none
          ∧ (s.cer.mode = .decode → plainAt s.cer.plain x = none)
          ∧ (s.cer.mode = .encode → ∃ y, plainAt s.cer.plain x = some y ∧ isUnknown (columnAt s.cat x) y = true)

/-- The counters of a block: one press value a run, the press sum is the number of eliminations, and the bounds of
45_cer.md R293 and R295. -/
def CountersOk (s : State) : Prop :=
  s.cer.press.length = s.cer.runIndex ∧ s.cer.press.sum = s.cer.elims
    ∧ s.cer.hits + s.cer.absorbs + unresolvedCount s.cat + 2 = s.cer.n
    ∧ (s.cer.elims : Int) + remainingElims s.cat ≤ ((s.cer.n : Int) - 2) * ((s.cer.v : Int) - 1)

/-- What holds between commands while a block is ACTIVE (45_cer.md R291, R293, R295). -/
def ActiveOk (s : State) : Prop :=
  s.spl.valid = true ∧ s.cat.valid = true
    ∧ s.spl.n = s.cer.n ∧ s.cat.n = s.cer.n ∧ s.spl.v = s.cer.v ∧ s.cat.v = s.cer.v
    ∧ RankingsOk s ∧ SamplesOk s ∧ CountersOk s ∧ s.cer.runIndex = s.cer.hits

/-- What holds of the CER once a block is DONE (45_cer.md R293, R295). -/
def DoneOk (c : Cer) : Prop :=
  c.rank = [] ∧ c.press.length = c.runIndex ∧ c.runIndex = c.hits + 1 ∧ c.press.sum = c.elims
    ∧ c.hits + c.absorbs + 2 = c.n ∧ (c.elims : Int) ≤ ((c.n : Int) - 2) * ((c.v : Int) - 1)
    ∧ c.plain.length = c.n ∧ ∀ p ∈ c.plain, p ≠ none

/-- The invariant of the block's own structures: catalogue, Spline, value cache, rankings, and the CER by phase. -/
def BlockInv (s : State) : Prop :=
  CatOk s.cat ∧ SplineOk s.spl ∧ CacheFormOk s.spl ∧ RankSorted s.cer.rank
    ∧ (s.cer.phase = .active → ActiveOk s) ∧ (s.cer.phase = .done → DoneOk s.cer)

/-! What the statements say a command computes, in the words of the rules. -/

/-- The reserved operation codes (30_encoding.md R96). -/
def reservedOpc (opc : Nat) : Bool :=
  decide ((0x04 ≤ opc ∧ opc ≤ 0x0F) ∨ (0x14 ≤ opc ∧ opc ≤ 0x1F) ∨ (0x32 ≤ opc ∧ opc ≤ 0x3F)
    ∨ (0x4A ≤ opc ∧ opc ≤ 0x4F) ∨ (0x56 ≤ opc ∧ opc ≤ 0x5F) ∨ (0x69 ≤ opc ∧ opc ≤ 0xFF))

/-- The operation codes that use CID as a codec ID (30_encoding.md R95). -/
def usesCodec (opc : Nat) : Bool := decide ((0x10 ≤ opc ∧ opc ≤ 0x13) ∨ opc = 0x26 ∨ opc = 0x27)

/-- The operation codes that use CID at all (30_encoding.md R95). -/
def usesCid (opc : Nat) : Bool := usesCodec opc || decide (opc = 0x02)

/-- The operation codes that use DOM (30_encoding.md R95). -/
def usesDom (opc : Nat) : Bool := decide (0x10 ≤ opc ∧ opc ≤ 0x13)

/-- Every operand check of a codec use passes: the Iota bound, the sign and the domain (41_universal_codes.md R120,
R124, R136). -/
def HasCodeword (c : Codec) (m : Nat) (d : Dom) (a : Int) : Prop :=
  (isIota c = true → 3 ≤ m) ∧ (d ≠ .signed → 0 ≤ a) ∧ inDomain c m (adaptIn d c a) = true

/-- The codeword of an adapted value (41_universal_codes.md R120). -/
def codeword (c : Codec) (m : Nat) (d : Dom) (a : Int) : Bits := encCode c m (adaptIn d c a).toNat

/-- The bits of a sequence of values, codeword after codeword (41_universal_codes.md R128). -/
def codewords (c : Codec) (m : Nat) (d : Dom) (vs : List Int) : Bits := vs.flatMap (codeword c m d)

/-- Read k codewords, one after the other (41_universal_codes.md R127, R128). -/
def readMany (c : Codec) (m k : Nat) (b : Bits) : Except Stop (List Nat × Bits) :=
  match k with
  | 0 => .ok ([], b)
  | k + 1 => do
    let (v, b) ← decCode c m b
    let (vs, b) ← readMany c m k b
    pure (v :: vs, b)

/-- The visits of the ruler order's queue, as 42_transforms.md R191 writes its loop: the front interval (a, b) is taken
out; if b - a ≥ 2 its midpoint m is visited and (a, m), (m, b) go to the back. `RulerQueue q out` says that from the
queue q the visits are out, each as (m, a, b). -/
inductive RulerQueue : List (Nat × Nat) → List (Nat × Nat × Nat) → Prop where
  | empty : RulerQueue [] []
  | visit {a b : Nat} {q : List (Nat × Nat)} {out : List (Nat × Nat × Nat)} : 2 ≤ b - a →
      RulerQueue (q ++ [(a, (a + b) / 2), ((a + b) / 2, b)]) out →
      RulerQueue ((a, b) :: q) (((a + b) / 2, a, b) :: out)
  | narrow {a b : Nat} {q : List (Nat × Nat)} {out : List (Nat × Nat × Nat)} : ¬2 ≤ b - a → RulerQueue q out →
      RulerQueue ((a, b) :: q) out

/-- FocusedZigZag by the cases of 42_transforms.md R175: fold v - f if v ≤ 2f, else v. -/
def foldAround (v f : Int) : Int := if v ≤ 2 * f then (if f ≤ v then 2 * (v - f) else 2 * (f - v) - 1) else v

/-- FocusedUnZigZag by the cases of 42_transforms.md R175. -/
def unfoldAround (u f : Int) : Int := if u ≤ 2 * f then (if Even u then f + u / 2 else f - (u + 1) / 2) else u

/-- The state after a command that consumes SIN and appends to SOUT. -/
def afterXf (s : State) (ys : List Int) : State := complete { s with sin := [], sout := s.sout ++ ys }

/-- A result list that SOUT can take (20_memory.md R73). -/
def Pushable (s : State) (ys : List Int) : Prop :=
  s.sout.length + ys.length ≤ Config.seqCap ∧ ∀ e ∈ ys, inElemRange e

/-- The bucket size of item i of a haven sequence: HB0 for the first, then b of the item before it (42_transforms.md
R185, R186). -/
def bucketAt (bfn hb0 : Nat) (ns : List Nat) (i : Nat) : Nat :=
  if i = 0 then hb0 else havenBucket bfn hb0 (ns.getD (i - 1) 0)

/-- The bits of item i of a haven sequence (42_transforms.md R185). -/
def havenItem (c : Codec) (m bfn hb0 : Nat) (ns : List Nat) (i : Nat) : Bits :=
  codeword c m .unsigned ((ns.getD i 0 / 2 ^ bucketAt bfn hb0 ns i : Nat) : Int)
    ++ binMsb (bucketAt bfn hb0 ns i) (ns.getD i 0)

/-- The bits of a haven sequence (42_transforms.md R185). -/
def havenBits (c : Codec) (m bfn hb0 : Nat) (ns : List Nat) : Bits :=
  (List.range ns.length).flatMap (havenItem c m bfn hb0 ns)

/-- Every item of a haven sequence has a codeword (42_transforms.md R187). -/
def HavenOk (c : Codec) (m bfn hb0 : Nat) (ns : List Nat) : Prop :=
  hb0 ≤ 31 ∧ bfn ≤ 1
    ∧ (isIota c = true → 3 ≤ m)
    ∧ ∀ i < ns.length, HasCodeword c m .unsigned ((ns.getD i 0 / 2 ^ bucketAt bfn hb0 ns i : Nat) : Int)

/-- The bits of a tracked-sum sequence with total S: each item in ⌈log₂(S - P + 1)⌉ bits (42_transforms.md R180). -/
def tsumBits (total : Nat) (ns : List Nat) : Bits :=
  (List.range ns.length).flatMap (fun i =>
    binMsb (Nat.clog 2 (total - (ns.take i).sum + 1)) (ns.getD i 0))

/-- The plaintext CER.ENCBLK and an encoding CER.INIT take from SIN (45_cer.md R298). -/
def plaintext (s : State) : List Int := s.sin.take (zext s.cfgN)

/-- The configuration and plaintext checks of an encoding CER.INIT pass (45_cer.md R298). -/
def EncodeReady (s : State) : Prop :=
  GeometryOk (zext s.cfgN) (zext s.cfgV) ∧ MethodOk s.cfgMethod ∧ locpolField s.cfgCache ≤ 2
    ∧ zext s.cfgN ≤ s.sin.length ∧ ∀ e ∈ plaintext s, 0 ≤ e ∧ e < zext s.cfgV

end Sys2Proof.Machine
end

