-- ==== Sys2Proof/Certificates/Slice0/Obligations.lean ====
section
/-! DEFINITION. The statements about the CER core block, for the provers. Each docstring names the rule it formalises.
A state the block is in while a command starts satisfies `Started`; `afterXf`, `complete` and `raiseError` are the ends
of a command, whose fields the statement `CommandEndFields` spells out. -/

section

open Sys2Proof Sys2Proof.Machine

/-! Encoding. -/

/-- Decode and encode agree, in both directions: the word of a well-formed instruction decodes to it, and a command word has
one meaning, so the instruction read from it encodes to it (30_encoding.md R90..R95). -/
def Obligations.DecodeEncodeAgree : Prop :=
  (∀ i : Instr, i.wf = true → decode (encode i) = .ok i)
  ∧ (∀ (w : Word) (i : Instr), decode w = .ok i → encode i = w)

/-- Words written out from the tables of 30_encoding.md R91, R93, R95, one or two for each family. -/
def Obligations.SampleWordsDecode : Prop :=
  decode 0x00000000#32 = .ok .ctlNop ∧ decode 0x00000F02#32 = .ok (.ctlFlush 0x0F#8)
    ∧ decode 0x00000110#32 = .ok (.encGamma .native) ∧ decode 0x00020110#32 = .ok (.encGamma .signed)
    ∧ decode 0x00010D11#32 = .ok (.decDiota .unsigned) ∧ decode 0x00000012#32 = .ok (.encseqUnary .native)
    ∧ decode 0x00000313#32 = .ok (.decseqFib .native) ∧ decode 0x00000126#32 = .ok .xfHaveneGamma
    ∧ decode 0x00000327#32 = .ok .xfHavendFib ∧ decode 0x00000031#32 = .ok .xfMedd
    ∧ decode 0x00000044#32 = .ok .catElimcol ∧ decode 0x00000052#32 = .ok .splPred
    ∧ decode 0x00000066#32 = .ok .cerEncblk ∧ decode 0x00000E10#32 = .error .reservedCodec
    ∧ decode 0x00040000#32 = .error .reservedBits

/-- The decoding checks of 30_encoding.md R91 in their order, seen at the step: the first one that fails raises
IllegalCommand with the command word as info, and a word that passes them all runs. -/
def Obligations.IllegalWordReported : Prop :=
  ∀ s : State, s.seq = .busy → Quiet s →
    let w := s.cur.toNat
    let illegal := fun sub : BitVec 8 => step s = .next (raiseError (illegalErr sub (.val w)) s)
    if w / 2 ^ 18 ≠ 0 then illegal 0x50#8
    else if reservedOpc (w % 256) then illegal 0x51#8
    else if (!usesCid (w % 256) && w / 256 % 256 != 0) || (!usesDom (w % 256) && w / 65536 % 4 != 0) then illegal 0x52#8
    else if usesCodec (w % 256) && decide (13 < w / 256 % 256) then illegal 0x53#8
    else if usesDom (w % 256) && w / 65536 % 4 == 3 then illegal 0x54#8
    else ∃ i, decode s.cur = .ok i ∧ step s = exec i s

/-! Steps, commands, resets. -/

/-- A step of a block that executes a command, with no early host access, runs the decoded instruction whole: the block
executes one command at a time (10_state.md R20, R21, 20_memory.md R62). That the whole command is one step is the model's
choice (log 3), which 70_reset_and_hazards.md R361 permits. -/
def Obligations.StepRunsCommand : Prop :=
  ∀ (s : State) (i : Instr), s.seq = .busy → Quiet s → decode s.cur = .ok i → step s = exec i s

/-- A host write of CMD to an IDLE block latches the word and starts the command (20_memory.md R62); a placed word is in the
state that such a write leaves, and the very next step runs its instruction (log 2). -/
def Obligations.CommandStart : Prop :=
  (∀ (s : State) (b : Bool) (v : Word) (rest : List HostEvent), s.seq = .idle →
    s.host = { early := b, access := .write 0x00#8 4 v } :: rest →
    step s = .next { s with
      host := rest
      cur := v
      seq := .busy
      status := { s.status with busy := true, done := false, nochg := false, err := none } })
  ∧ (∀ (s : State) (i : Instr), i.wf = true →
    step (s.withFetchWord 32 (encode i).toNat) = exec i (s.withFetchWord 32 (encode i).toNat)
      ∧ Started (s.withFetchWord 32 (encode i).toNat) ∧ (s.withFetchWord 32 (encode i).toNat).cur = encode i)

/-- What the two ends of a command write: the report of an error (60_exceptions.md R320) and the end of a command that
returns (20_memory.md R62), every other piece of state kept. -/
def Obligations.CommandEndFields : Prop :=
  (∀ (k : ErrKind) (sub : BitVec 8) (n : Int) (s : State),
    raiseError { kind := k, sub := sub, info := .val n } s = { s with
      status := { s.status with busy := false, done := false, nochg := false, serr := true, err := some k }
      errCmd := s.cur
      errInfo := BitVec.ofInt 32 n
      errSub := sub
      seq := .idle })
  ∧ (∀ s : State, complete s = { s with status := { s.status with busy := false, done := true }, seq := .idle })

/-- The value of every piece of state at reset (70_reset_and_hazards.md R350). -/
def Obligations.ResetValues : Prop :=
  let r := State.reset
  r.seq = .idle ∧ r.cur = 0#32 ∧ r.arg0 = 0#32 ∧ r.arg1 = 0#32 ∧ r.arg2 = 0#32 ∧ r.arg3 = 0#32
    ∧ r.res0 = 0#32 ∧ r.res1 = 0#32 ∧ statusWord r.status = 0#32
    ∧ r.errCmd = 0#32 ∧ r.errInfo = 0#32 ∧ r.errSub = 0#8
    ∧ r.cfgN = 0#32 ∧ r.cfgV = 0#32 ∧ r.cfgMethod = 0x00020922#32 ∧ r.cfgCodec = 1#32 ∧ r.cfgIotaMax = 255#32
    ∧ r.cfgHaven = 0x00000100#32 ∧ r.cfgCache = 0#32 ∧ Config.idWord = 0x43455201#32
    ∧ r.bin = [] ∧ r.bout = [] ∧ r.sin = [] ∧ r.sout = []
    ∧ r.spl.valid = false ∧ r.spl.n = 0 ∧ r.spl.v = 0 ∧ r.spl.cfg = 0#32 ∧ r.spl.bones = []
    ∧ r.spl.loc = [] ∧ r.spl.dist = [] ∧ r.spl.vc = []
    ∧ r.cat.valid = false ∧ r.cat.n = 0 ∧ r.cat.v = 0 ∧ r.cat.cols = []
    ∧ r.cer.phase = .idle ∧ r.cer.mode = .encode ∧ r.cer.psrc = .sin ∧ r.cer.n = 0 ∧ r.cer.v = 0
    ∧ r.cer.cfgMethod = 0#32 ∧ r.cer.cfgCodec = 0#32 ∧ r.cer.cfgIotaMax = 0#32
    ∧ r.cer.plain = [] ∧ r.cer.press = [] ∧ r.cer.rank = []
    ∧ r.cer.s = 0 ∧ r.cer.runIndex = 0 ∧ r.cer.elims = 0 ∧ r.cer.hits = 0 ∧ r.cer.absorbs = 0

/-- The two resets: the hardware input at any time, aborting a command in progress (70_reset_and_hazards.md R351), and
CTL.SRESET, which keeps the sticky flags (40_control.md R111). That the model's own fields stay is log 24. -/
def Obligations.ResetsRestoreReset : Prop :=
  (∀ (s : State) (rest : List HostEvent), ActsNext .reset rest s →
    step s = .next { State.reset with host := rest, rdata := s.rdata, free := s.free })
  ∧ (∀ s : State, exec .ctlSreset s = .next { State.reset with
      status := { busy := false, done := true, nochg := false, ovr := s.status.ovr, serr := s.status.serr,
                  porterr := s.status.porterr, err := none }
      host := s.host
      rdata := s.rdata
      free := s.free })

/-- CTL.NOP, CTL.FLUSH and CTL.CINV (40_control.md R110, R112, R113). -/
def Obligations.ControlCommandEffects : Prop :=
  ∀ s : State,
    exec .ctlNop s = .next (complete s)
    ∧ (∀ m : BitVec 8, m.toNat < 16 → exec (.ctlFlush m) s = .next (complete { s with
        bin := if m.getLsbD 0 then [] else s.bin
        bout := if m.getLsbD 1 then [] else s.bout
        sin := if m.getLsbD 2 then [] else s.sin
        sout := if m.getLsbD 3 then [] else s.sout }))
    ∧ (∀ m : BitVec 8, 16 ≤ m.toNat →
        exec (.ctlFlush m) s = .next (raiseError (illegalErr 0x52#8 (.val s.cur.toNat)) s))
    ∧ (s.spl.valid = false → exec .ctlCinv s = .next (complete s))
    ∧ (s.spl.valid = true → exec .ctlCinv s = .next (complete { s with spl := { s.spl with
        vc := if s.spl.vcEn then [] else s.spl.vc
        loc := if s.spl.locPol = .nearby then (List.range s.spl.n).map (nearestBone s.spl.bones) else []
        dist := if s.spl.locPol = .distance then
            (List.range s.spl.n).map (fun x => (nearestBone s.spl.bones x).map (absDist x)) else [] } }))

/-- Every command ends: it leaves the block IDLE and not BUSY, with either DONE or an error kind, and a command without
an error keeps the error report and the sticky flags (20_memory.md R62, 60_exceptions.md R331, R365). -/
def Obligations.EveryCommandEnds : Prop :=
  ∀ (i : Instr) (s : State), Started s →
    ∃ t, exec i s = .next t ∧ t.seq = .idle ∧ t.status.busy = false
      ∧ (t.status.done = true ↔ t.status.err = none)
      ∧ t.status.ovr = s.status.ovr ∧ t.status.porterr = s.status.porterr
      ∧ (t.status.err = none → t.status.serr = s.status.serr
          ∧ (i ≠ .ctlSreset → t.errCmd = s.errCmd ∧ t.errInfo = s.errInfo ∧ t.errSub = s.errSub))

/-- Stream atomicity (20_memory.md R74, 60_exceptions.md R324): a command that ends with an error leaves the four
streams, the results and the operands as they were. Only the four CER commands that run a block keep other changes, and
then PHASE = FAILED; an error of CER.RUN or CER.BLOCK, whichever it is, leaves PHASE = FAILED (for 0x43 see log 30). -/
def Obligations.ErrorRestoresState : Prop :=
  ∀ (i : Instr) (s t : State), Started s → exec i s = .next t → t.status.err ≠ none →
    t.bin = s.bin ∧ t.bout = s.bout ∧ t.sin = s.sin ∧ t.sout = s.sout ∧ t.res0 = s.res0 ∧ t.res1 = s.res1
      ∧ t.errCmd = s.cur ∧ t.status.serr = true ∧ t.status.done = false ∧ t.status.nochg = false
      ∧ (i ≠ .cerRun → i ≠ .cerBlock → i ≠ .cerEncblk → i ≠ .cerDecblk →
          t.cat = s.cat ∧ t.cer = s.cer ∧ { t.spl with vc := s.spl.vc } = s.spl)
      ∧ ((t.cat ≠ s.cat ∨ t.cer ≠ s.cer ∨ t.spl.bones ≠ s.spl.bones) → t.cer.phase = .failed)
      ∧ (i = .cerRun ∨ i = .cerBlock → t.cer.phase = .failed)

/-- Commands read the command word, the ARG and the CFG registers and never write them, except CTL.SRESET (10_state.md
R22, R41), and they touch no host access to come and not the word last read (the model's own fields, log 1). -/
def Obligations.HostRegistersKept : Prop :=
  ∀ (i : Instr) (s t : State), exec i s = .next t →
    t.host = s.host ∧ t.rdata = s.rdata
      ∧ (i ≠ .ctlSreset →
          t.cur = s.cur ∧ t.arg0 = s.arg0 ∧ t.arg1 = s.arg1 ∧ t.arg2 = s.arg2 ∧ t.arg3 = s.arg3
            ∧ t.cfgN = s.cfgN ∧ t.cfgV = s.cfgV ∧ t.cfgMethod = s.cfgMethod ∧ t.cfgCodec = s.cfgCodec
            ∧ t.cfgIotaMax = s.cfgIotaMax ∧ t.cfgHaven = s.cfgHaven ∧ t.cfgCache = s.cfgCache)

/-- Only CAT.CLAMP signals NoChange, and then it completes normally with its result written (60_exceptions.md R323,
43_catalogue.md R228). -/
def Obligations.OnlyClampSignalsNoChange : Prop :=
  ∀ (i : Instr) (s t : State), Started s → exec i s = .next t → t.status.nochg = true →
    i = .catClamp ∧ t.status.done = true ∧ t.status.err = none ∧ t.status.serr = s.status.serr
      ∧ t.errCmd = s.errCmd ∧ t.errInfo = s.errInfo ∧ t.errSub = s.errSub ∧ t.res0 = s.arg1
      ∧ (columnAt s.cat s.arg0.toNat).lo < s.arg1.toInt ∧ s.arg1.toInt < (columnAt s.cat s.arg0.toNat).hi

/-- Which commands may change the catalogue, the bones and the CER state (10_state.md R41, 43_catalogue.md R232). -/
def Obligations.StructureWriters : Prop :=
  ∀ (i : Instr) (s t : State), exec i s = .next t →
    (t.cat ≠ s.cat → i ∈ [.ctlSreset, .catInit, .catElim, .catElimcol, .catImpmin, .catImpmax, .cerInit, .cerRun,
      .cerBlock, .cerEncblk, .cerDecblk])
    ∧ (t.spl.bones ≠ s.spl.bones → i ∈ [.ctlSreset, .splInit, .splSet, .cerInit, .cerRun, .cerBlock, .cerEncblk,
      .cerDecblk])
    ∧ (t.cer ≠ s.cer → i ∈ [.ctlSreset, .cerInit, .cerRun, .cerBlock, .cerEncblk, .cerDecblk, .cerFill])

/-! Refusals by phase and by initialisation. -/

/-- While a block is ACTIVE the mutating CAT and SPL commands are refused (43_catalogue.md R230, 44_spline.md R273), and
CER.FILL; outside ACTIVE, CER.RUN and CER.BLOCK are (45_cer.md R281); a structure that is not initialised is an
IntegrityError 0x20 (10_state.md R35, R37). Which check comes first is read from the pseudocode's order (log 12). That
CER.RUN and CER.BLOCK refused so set PHASE = FAILED and change nothing else but the error report is R299's and
60_exceptions.md R324's word, to which R281's "changes nothing" is read as giving way (log 30). -/
def Obligations.PhaseAndValidRefusals : Prop :=
  (∀ s : State,
    (s.cer.phase = .active →
      (∀ i ∈ [Instr.catInit, .catElim, .catElimcol, .catImpmin, .catImpmax, .splInit],
        exec i s = .next (raiseError (integrityErr 0x40#8 (.val s.cur.toNat)) s))
      ∧ (s.spl.valid = true → exec .splSet s = .next (raiseError (integrityErr 0x40#8 (.val s.cur.toNat)) s)))
    ∧ (s.cer.phase ≠ .active →
      ∀ i ∈ [Instr.cerRun, .cerBlock], exec i s = .next (raiseError (integrityErr 0x43#8 (.val s.cur.toNat))
        { s with cer := { s.cer with phase := .failed } }))
    ∧ (s.cer.phase = .active ∨ s.cer.phase = .idle →
      exec .cerFill s = .next (raiseError (integrityErr 0x43#8 (.val s.cur.toNat)) s)))
  ∧ (∀ s : State,
    (s.cat.valid = false →
      (∀ i ∈ [Instr.catCount, .catStatus, .catExtreme, .catClamp, .catLimits],
        exec i s = .next (raiseError (integrityErr 0x20#8 (.val s.cur.toNat)) s))
      ∧ (s.cer.phase ≠ .active → ∀ i ∈ [Instr.catElim, .catElimcol, .catImpmin, .catImpmax],
        exec i s = .next (raiseError (integrityErr 0x20#8 (.val s.cur.toNat)) s)))
    ∧ (s.spl.valid = false → ∀ i ∈ [Instr.splSet, .splPred, .splSurr, .splBone, .splPredall, .cerScore],
        exec i s = .next (raiseError (integrityErr 0x20#8 (.val s.cur.toNat)) s)))

/-! The register window. -/

/-- The layout of STATUS (10_state.md R24, R25), and what the read-only registers of an IDLE block read (R21, R23, R26, R33,
20_memory.md R68); such a read changes nothing else, and every read but the two pops is idempotent (20_memory.md R77). -/
def Obligations.ReadOnlyRegisterReads : Prop :=
  (∀ st : Status,
    (statusWord st).getLsbD 0 = st.busy ∧ (statusWord st).getLsbD 1 = st.done ∧ (statusWord st).getLsbD 2 = st.nochg
      ∧ (statusWord st).getLsbD 3 = st.ovr ∧ (statusWord st).getLsbD 4 = st.serr
      ∧ (statusWord st).getLsbD 5 = st.porterr
      ∧ (statusWord st).extractLsb' 6 2 = 0#2 ∧ (statusWord st).extractLsb' 12 20 = 0#20
      ∧ ((statusWord st).extractLsb' 8 4).toNat = (match st.err with
          | none => 0
          | some .parse => 1
          | some .exhaustion => 2
          | some .domain => 3
          | some .integrity => 4
          | some .illegalCommand => 5
          | some .capacity => 6))
  ∧ (∀ s : State, s.seq = .idle →
    ∀ p ∈ [(0x00#8, s.cur), (0x04#8, statusWord s.status), (0x08#8, s.errCmd), (0x0C#8, s.errInfo),
        (0x10#8, BitVec.ofNat 32 s.errSub.toNat), (0x14#8, 0x43455201#32), (0x30#8, s.res0), (0x34#8, s.res1),
        (0x64#8, BitVec.ofNat 32 s.bin.length), (0x6C#8, BitVec.ofNat 32 s.bout.length),
        (0x74#8, BitVec.ofNat 32 s.sin.length), (0x7C#8, BitVec.ofNat 32 s.sout.length),
        (0x80#8, BitVec.ofNat 32 ((match s.cer.phase with
            | .idle => 0
            | .active => 1
            | .done => 2
            | .failed => 3) + (if s.cer.mode = .decode then 4 else 0))),
        (0x84#8, BitVec.ofNat 32 s.cer.s), (0x88#8, BitVec.ofNat 32 s.cer.runIndex),
        (0x8C#8, BitVec.ofNat 32 s.cer.elims), (0x90#8, BitVec.ofNat 32 s.cer.hits),
        (0x94#8, BitVec.ofNat 32 s.cer.rank.length)],
      hostAccess (.read p.1 4) s = { s with rdata := p.2 })
  ∧ (∀ (s : State) (off : BitVec 8) (w : Nat), s.seq = .idle → off ≠ 0x68#8 → off ≠ 0x78#8 →
      hostAccess (.read off w) (hostAccess (.read off w) s) = hostAccess (.read off w) s)

/-- The four stream ports of an IDLE block (20_memory.md R64, R65, R66, R67). -/
def Obligations.StreamPortAccess : Prop :=
  ∀ (s : State) (v : Word), s.seq = .idle →
    hostAccess (.write 0x60#8 4 v) s =
        (if s.bin.length < 2 ^ 20 then { s with bin := s.bin ++ [v.getLsbD 0] }
         else { s with status := { s.status with porterr := true } })
    ∧ hostAccess (.write 0x70#8 4 v) s =
        (if s.sin.length < 8192 then { s with sin := s.sin ++ [v.toInt] }
         else { s with status := { s.status with porterr := true } })
    ∧ hostAccess (.read 0x68#8 4) s =
        (match s.bout with
          | [] => { s with rdata := 0#32, status := { s.status with porterr := true } }
          | b :: rest => { s with rdata := (if b then 1#32 else 0#32), bout := rest })
    ∧ hostAccess (.read 0x78#8 4) s =
        (match s.sout with
          | [] => { s with rdata := 0#32, status := { s.status with porterr := true } }
          | e :: rest => { s with rdata := BitVec.ofInt 32 e, sout := rest })

/-- The window's edges, in either state of the sequencer: the W1C write of STATUS (20_memory.md R63), an access that is
misaligned or not 4 bytes wide (R75), every offset that R61 reserves, and the read-only registers (R69). That misaligned
accesses and these offsets do so whatever BUSY is, is the model's reading (log 19). -/
def Obligations.WindowEdges : Prop :=
  ∀ (s : State) (v : Word),
    hostAccess (.write 0x04#8 4 v) s = { s with status := { s.status with
        ovr := s.status.ovr && !v.getLsbD 3
        serr := s.status.serr && !v.getLsbD 4
        porterr := s.status.porterr && !v.getLsbD 5 } }
    ∧ (∀ (off : BitVec 8) (w : Nat), ¬(w = 4 ∧ off.toNat % 4 = 0) →
        hostAccess (.write off w v) s = { s with status := { s.status with porterr := true } }
        ∧ hostAccess (.read off w) s = { s with rdata := 0#32, status := { s.status with porterr := true } })
    ∧ (∀ off : BitVec 8, off.toNat % 4 = 0 → off.toNat ∈ [0x18, 0x1C, 0x38, 0x3C, 0x5C] ∨ 0x98 ≤ off.toNat →
        hostAccess (.write off 4 v) s = s ∧ hostAccess (.read off 4) s = { s with rdata := 0#32 })
    ∧ (∀ off ∈ [0x08#8, 0x0C#8, 0x10#8, 0x14#8, 0x30#8, 0x34#8, 0x64#8, 0x68#8, 0x6C#8, 0x74#8, 0x78#8, 0x7C#8,
          0x80#8, 0x84#8, 0x88#8, 0x8C#8, 0x90#8, 0x94#8],
        hostAccess (.write off 4 v) s = s)

/-- The eleven read-write registers of an IDLE block: a write at the register's offset sets exactly the field of that
register, reserved bits 0, and nothing else; and a read after it returns what was written, reserved bits 0 (10_state.md
R22, R27..R32, 20_memory.md R61, R69). -/
def Obligations.RegisterReadBack : Prop :=
  ∀ (s : State) (v : Word), s.seq = .idle →
    hostAccess (.write 0x20#8 4 v) s = { s with arg0 := v }
    ∧ hostAccess (.write 0x24#8 4 v) s = { s with arg1 := v }
    ∧ hostAccess (.write 0x28#8 4 v) s = { s with arg2 := v }
    ∧ hostAccess (.write 0x2C#8 4 v) s = { s with arg3 := v }
    ∧ hostAccess (.write 0x40#8 4 v) s = { s with cfgN := v }
    ∧ hostAccess (.write 0x44#8 4 v) s = { s with cfgV := v }
    ∧ hostAccess (.write 0x48#8 4 v) s = { s with cfgMethod := v &&& 0x00FFFF77#32 }
    ∧ hostAccess (.write 0x4C#8 4 v) s = { s with cfgCodec := v &&& 0x000000FF#32 }
    ∧ hostAccess (.write 0x50#8 4 v) s = { s with cfgIotaMax := v }
    ∧ hostAccess (.write 0x54#8 4 v) s = { s with cfgHaven := v &&& 0x000003FF#32 }
    ∧ hostAccess (.write 0x58#8 4 v) s = { s with cfgCache := v &&& 0x00000007#32 }
    ∧ ∀ p ∈ [(0x20#8, 0xFFFFFFFF#32), (0x24#8, 0xFFFFFFFF#32), (0x28#8, 0xFFFFFFFF#32), (0x2C#8, 0xFFFFFFFF#32),
        (0x40#8, 0xFFFFFFFF#32), (0x44#8, 0xFFFFFFFF#32), (0x48#8, 0x00FFFF77#32), (0x4C#8, 0x000000FF#32),
        (0x50#8, 0xFFFFFFFF#32), (0x54#8, 0x000003FF#32), (0x58#8, 0x00000007#32)],
      hostAccess (.read p.1 4) (hostAccess (.write p.1 4 v) s)
        = { hostAccess (.write p.1 4 v) s with rdata := v &&& p.2 }

/-- The busy hazard (70_reset_and_hazards.md R360), at the step: an early host write of CMD, an ARG, a CFG register or a
push port is ignored and sets OVR; an early pop returns 0, removes nothing and sets OVR; a W1C write is performed; STATUS
and ID read as they are. Which accesses land while a command runs is an input (log 3); that an early pop of an empty FIFO,
or an early push to a full one, sets OVR alone and not PORTERR is the model's reading (log 31). -/
def Obligations.BusyHazard : Prop :=
  ∀ (s : State) (rest : List HostEvent) (v : Word), s.seq = .busy →
    (∀ off ∈ [0x00#8, 0x20#8, 0x24#8, 0x28#8, 0x2C#8, 0x40#8, 0x44#8, 0x48#8, 0x4C#8, 0x50#8, 0x54#8, 0x58#8, 0x60#8,
        0x70#8],
      s.host = { early := true, access := .write off 4 v } :: rest →
      step s = .next { s with host := rest, status := { s.status with ovr := true } })
    ∧ (∀ off ∈ [0x68#8, 0x78#8], s.host = { early := true, access := .read off 4 } :: rest →
      step s = .next { s with host := rest, rdata := 0#32, status := { s.status with ovr := true } })
    ∧ (s.host = { early := true, access := .write 0x04#8 4 v } :: rest →
      step s = .next { s with host := rest, status := { s.status with
        ovr := s.status.ovr && !v.getLsbD 3
        serr := s.status.serr && !v.getLsbD 4
        porterr := s.status.porterr && !v.getLsbD 5 } })
    ∧ (s.host = { early := true, access := .read 0x04#8 4 } :: rest →
      step s = .next { s with host := rest, rdata := statusWord s.status })
    ∧ (s.host = { early := true, access := .read 0x14#8 4 } :: rest →
      step s = .next { s with host := rest, rdata := 0x43455201#32 })

/-! Invariants that every step keeps. -/

/-- Every step keeps BUSY in line with SEQ and the status bits consistent and the reserved configuration bits 0 (10_state.md
R24, 20_memory.md R62, R69), and the four streams within their capacities and their elements in range (10_state.md
R34). -/
def Obligations.RegisterAndStreamInvariant : Prop :=
  (∀ s t : State, StatusOk s → ReservedZero s → step s = .next t → StatusOk t ∧ ReservedZero t)
  ∧ (∀ s t : State, StreamsOk s → step s = .next t → StreamsOk t)

/-- Every step keeps the block's invariant: the limits of every column, the bones, LOC and DIST, the form of the value
cache, the order of the rankings, and, while a block is ACTIVE, that the rankings are the frontier cells of the
unresolved columns, that the samples agree with the catalogue and that the counters add up (10_state.md R35..R39,
45_cer.md R291, R293, R295). -/
def Obligations.BlockInvariantKept : Prop := ∀ s t : State, BlockInv s → step s = .next t → BlockInv t

/-- Every step keeps the cached predictions right for their keys (44_spline.md R266, R267). -/
def Obligations.CachedPredictionsStayRight : Prop :=
  ∀ s t : State, BlockInv s → CacheValuesOk s.spl → step s = .next t → CacheValuesOk t.spl

/-- The invariants hold at reset (70_reset_and_hazards.md R350). -/
def Obligations.InvariantsAtReset : Prop :=
  StatusOk State.reset ∧ ReservedZero State.reset ∧ StreamsOk State.reset ∧ BlockInv State.reset
    ∧ CacheValuesOk State.reset.spl

/-! Universal codes. -/

/-- The round-trip law (41_universal_codes.md R127): for every codec, every value of its domain and every bit string,
the reading procedure returns the value and leaves exactly that bit string; and the same for every finite sequence over
the domain. For R130..R132 the law is a claim of the source; for R135..R139, eleven of the fourteen codecs, it is an
inference of the spec's own, which R127 marks "derived for R135–R139 [derived: from rules R133–R139]". -/
def Obligations.CodecRoundTrip : Prop :=
  ∀ (c : Codec) (m : Nat), (isIota c = true → 3 ≤ m) →
    (∀ (n : Nat) (t : Bits), inDomain c m n = true → decCode c m (encCode c m n ++ t) = .ok (n, t))
    ∧ (∀ (ns : List Nat) (t : Bits), (∀ n ∈ ns, inDomain c m (n : Int) = true) →
      readMany c m ns.length (ns.flatMap (encCode c m) ++ t) = .ok (ns, t))

/-- UC.ENC with every codec and domain (41_universal_codes.md R120). -/
def Obligations.EncCompletes : Prop :=
  ∀ (c : Codec) (d : Dom) (s : State), HasCodeword c s.arg1.toNat d (encOperand d s) →
    s.bout.length + (codeword c s.arg1.toNat d (encOperand d s)).length ≤ 2 ^ 20 →
    exec (encInstr c d) s = .next (complete { s with
      bout := s.bout ++ codeword c s.arg1.toNat d (encOperand d s)
      res0 := BitVec.ofNat 32 (codeword c s.arg1.toNat d (encOperand d s)).length })

/-- How UC.ENC is refused: a value outside the declared domain (41_universal_codes.md R120), and a codeword that BOUT cannot
take whole (20_memory.md R71, R74); a bad Iota bound in every command with an Iota codec, before any data is read (R136,
R137; the point of the check is the model's, log 11); and a CFG_HAVEN that the haven commands refuse (42_transforms.md
R187), HB0 first (log 12). -/
def Obligations.CodecOperandRefusals : Prop :=
  (∀ (c : Codec) (d : Dom) (s : State), (isIota c = true → 3 ≤ s.arg1.toNat) →
    (inDomain c s.arg1.toNat (adaptIn d c (encOperand d s)) = false →
      exec (encInstr c d) s = .next (raiseError (domainErr 0x30#8 (.val s.arg0.toNat)) s))
    ∧ (inDomain c s.arg1.toNat (adaptIn d c (encOperand d s)) = true → s.bout.length ≤ 2 ^ 20 →
      2 ^ 20 < s.bout.length + (codeword c s.arg1.toNat d (encOperand d s)).length →
      exec (encInstr c d) s = .next (raiseError (capacityErr 0x60#8 (.val (2 ^ 20))) s)))
  ∧ (∀ (c : Codec) (d : Dom) (s : State), isIota c = true → s.arg1.toNat < 3 →
    (∀ i ∈ [encInstr c d, decInstr c d, encseqInstr c d, decseqInstr c d],
      exec i s = .next (raiseError (domainErr 0x31#8 (.val s.arg1.toNat)) s))
    ∧ (hb0Field s.cfgHaven ≤ 31 → bfnField s.cfgHaven ≤ 1 → ∀ i ∈ [haveneInstr c, havendInstr c],
      exec i s = .next (raiseError (domainErr 0x31#8 (.val s.arg1.toNat)) s)))
  ∧ (∀ (c : Codec) (s : State), ∀ i ∈ [haveneInstr c, havendInstr c],
    (31 < hb0Field s.cfgHaven →
      exec i s = .next (raiseError (domainErr 0x33#8 (.val (hb0Field s.cfgHaven))) s))
    ∧ (hb0Field s.cfgHaven ≤ 31 → 1 < bfnField s.cfgHaven →
      exec i s = .next (raiseError (illegalErr 0x55#8 (.val s.cfgHaven.toNat)) s)))

/-- UC.DEC of a codeword: its value if it fits RES0, else ParseError 0x11 (41_universal_codes.md R121, R126); with no bit at
all an ExhaustionError, with a codeword cut short a ParseError whose info is the number of bits read (R125; log 29). -/
def Obligations.DecResults : Prop :=
  (∀ (c : Codec) (d : Dom) (s : State) (n : Nat) (rest : Bits), (isIota c = true → 3 ≤ s.arg1.toNat) →
    inDomain c s.arg1.toNat n = true → s.bin = encCode c s.arg1.toNat n ++ rest →
    exec (decInstr c d) s = .next
      (if (d = .signed ∧ -2 ^ 31 ≤ adaptOut d c n ∧ adaptOut d c n < 2 ^ 31)
          ∨ (d ≠ .signed ∧ 0 ≤ adaptOut d c n ∧ adaptOut d c n < 2 ^ 32) then
        complete { s with
          bin := rest
          res0 := BitVec.ofInt 32 (adaptOut d c n)
          res1 := BitVec.ofNat 32 (encCode c s.arg1.toNat n).length }
      else raiseError (parseErr 0x11#8 (.val (adaptOut d c n))) s))
  ∧ (∀ (c : Codec) (d : Dom) (s : State), (isIota c = true → 3 ≤ s.arg1.toNat) →
    (s.bin = [] → exec (decInstr c d) s = .next (raiseError (exhaustionErr 0x12#8 (.val 0)) s))
    ∧ (∀ (n : Nat) (cut : Bits), inDomain c s.arg1.toNat n = true → s.bin ≠ [] → cut ≠ [] →
        encCode c s.arg1.toNat n = s.bin ++ cut →
        exec (decInstr c d) s = .next (raiseError (parseErr 0x10#8 (.val s.bin.length)) s)))

/-- UC.ENCSEQ and UC.DECSEQ with every codec and domain: all of SIN to its codewords, and the codewords of a sequence
back to it (41_universal_codes.md R122, R123, R128). -/
def Obligations.SequenceCodecsComplete : Prop :=
  ∀ (c : Codec) (d : Dom) (s : State), (isIota c = true → 3 ≤ s.arg1.toNat) →
    ((∀ e ∈ s.sin, HasCodeword c s.arg1.toNat d e) →
      s.bout.length + (codewords c s.arg1.toNat d s.sin).length ≤ 2 ^ 20 →
      exec (encseqInstr c d) s = .next (complete { s with
        bout := s.bout ++ codewords c s.arg1.toNat d s.sin
        sin := []
        res0 := BitVec.ofNat 32 s.sin.length }))
    ∧ (∀ vs : List Int, (∀ e ∈ vs, HasCodeword c s.arg1.toNat d e) → s.bin = codewords c s.arg1.toNat d vs →
      Pushable s vs →
      exec (decseqInstr c d) s = .next (complete { s with
        bin := []
        sout := s.sout ++ vs
        res0 := BitVec.ofNat 32 vs.length }))

/-! Transforms. -/

/-- XF.DELTAE, XF.DELTAD, XF.ZZE and XF.ZZD (42_transforms.md R170..R174); XF.FZZE and XF.FZZD with focus f = ARG0 (R175,
R176, R177): v ≤ 2f is folded around f, a greater v stays; and the second function undoes the first on every natural
number. -/
def Obligations.ElementTransformResults : Prop :=
  (∀ s : State,
    (Pushable s (List.zipWith (· - ·) s.sin (0 :: s.sin)) →
      exec .xfDeltae s = .next (afterXf s (List.zipWith (· - ·) s.sin (0 :: s.sin))))
    ∧ (Pushable s (s.sin.scanl (· + ·) 0).tail →
      exec .xfDeltad s = .next (afterXf s (s.sin.scanl (· + ·) 0).tail))
    ∧ (Pushable s (s.sin.map (fun n => if 0 ≤ n then 2 * n else -2 * n - 1)) →
      exec .xfZze s = .next (afterXf s (s.sin.map (fun n => if 0 ≤ n then 2 * n else -2 * n - 1))))
    ∧ ((∀ e ∈ s.sin, 0 ≤ e) → Pushable s (s.sin.map (fun u => if Even u then u / 2 else -((u + 1) / 2))) →
      exec .xfZzd s = .next (afterXf s (s.sin.map (fun u => if Even u then u / 2 else -((u + 1) / 2))))))
  ∧ (∀ s : State, s.arg0.toNat < 2 ^ 30 → (∀ e ∈ s.sin, 0 ≤ e) →
    let f : Int := s.arg0.toNat
    let fold := fun v : Int => if v ≤ 2 * f then (if f ≤ v then 2 * (v - f) else 2 * (f - v) - 1) else v
    let unfold' := fun u : Int => if u ≤ 2 * f then (if Even u then f + u / 2 else f - (u + 1) / 2) else u
    (Pushable s (s.sin.map fold) → exec .xfFzze s = .next (afterXf s (s.sin.map fold)))
    ∧ (Pushable s (s.sin.map unfold') → exec .xfFzzd s = .next (afterXf s (s.sin.map unfold'))))
  ∧ (∀ v f : Int, 0 ≤ v → 0 ≤ f →
      focusedZigZag v f = foldAround v f ∧ focusedUnZigZag v f = unfoldAround v f
        ∧ 0 ≤ foldAround v f ∧ unfoldAround (foldAround v f) f = v
        ∧ (foldAround v f ≤ 2 * f ↔ v ≤ 2 * f) ∧ (2 * f < v → foldAround v f = v))

/-- XF.TSUME and XF.TSUMD: each item in ⌈log₂(S - P + 1)⌉ bits, and back (42_transforms.md R180, R182, R183). -/
def Obligations.TrackedSumResults : Prop :=
  ∀ (s : State) (ns : List Nat), ns.sum ≤ s.arg0.toNat →
    (s.sin = ns.map Int.ofNat → s.bout.length + (tsumBits s.arg0.toNat ns).length ≤ 2 ^ 20 →
      exec .xfTsume s = .next (complete { s with
        bout := s.bout ++ tsumBits s.arg0.toNat ns
        sin := []
        res0 := BitVec.ofNat 32 (tsumBits s.arg0.toNat ns).length }))
    ∧ (∀ rest : Bits, s.arg1.toNat = ns.length → s.bin = tsumBits s.arg0.toNat ns ++ rest →
      Pushable s (ns.map Int.ofNat) →
      exec .xfTsumd s = .next (complete { s with bin := rest, sout := s.sout ++ ns.map Int.ofNat }))

/-- XF.HAVENE and XF.HAVEND with every codec: the item's high part as a codeword, its low bits raw, the bucket size from
the item before it, and back (42_transforms.md R185..R188). After items that pass, XF.HAVEND refuses a raw tail cut short
(R188), a codeword whose adapted value is out of the element range, 0x11 (41_universal_codes.md R126), and an item out of
it, 0x62 (R188); that each of the two has its own error is log 10. -/
def Obligations.HavenResults : Prop :=
  ∀ (c : Codec) (s : State) (ns : List Nat),
    HavenOk c s.arg1.toNat (bfnField s.cfgHaven) (hb0Field s.cfgHaven) ns →
    let bits := havenBits c s.arg1.toNat (bfnField s.cfgHaven) (hb0Field s.cfgHaven) ns
    let hb := bucketAt (bfnField s.cfgHaven) (hb0Field s.cfgHaven) ns ns.length
    (s.sin = ns.map Int.ofNat → s.bout.length + bits.length ≤ 2 ^ 20 →
      exec (haveneInstr c) s = .next (complete { s with
        bout := s.bout ++ bits
        sin := []
        res0 := BitVec.ofNat 32 ns.length }))
    ∧ (s.bin = bits → Pushable s (ns.map Int.ofNat) →
      exec (havendInstr c) s = .next (complete { s with
        bin := []
        sout := s.sout ++ ns.map Int.ofNat
        res0 := BitVec.ofNat 32 ns.length }))
    ∧ (∀ (hi : Nat) (rest : Bits), HasCodeword c s.arg1.toNat .unsigned hi → Pushable s (ns.map Int.ofNat) →
      s.bin = bits ++ codeword c s.arg1.toNat .unsigned hi ++ rest →
      (2 ^ 31 ≤ hi → exec (havendInstr c) s = .next (raiseError (parseErr 0x11#8 (.val hi)) s))
      ∧ (hi < 2 ^ 31 → rest.length < hb →
          exec (havendInstr c) s = .next (raiseError (parseErr 0x10#8 (.val ns.length)) s))
      ∧ (∀ (lo : Nat) (more : Bits), hi < 2 ^ 31 → rest = binMsb hb lo ++ more → lo < 2 ^ hb →
          2 ^ 31 ≤ hi * 2 ^ hb + lo → s.sout.length + ns.length < 8192 →
          exec (havendInstr c) s = .next (raiseError (domainErr 0x62#8 (.val (hi * 2 ^ hb + lo : Nat))) s)))

/-- The ruler order of 42_transforms.md R191: it visits every index exactly once, endpoints first, then the visits of the
queue that starts with the whole interval, in the queue's order; and each later index is the midpoint of its interval,
whose ends are the nearest indices visited before it on either side. -/
def Obligations.RulerOrderLaw : Prop :=
  rulerOrder 0 = [] ∧ rulerOrder 1 = [0]
  ∧ ∀ l : Nat,
    (rulerOrder l).Perm (List.range l)
    ∧ (2 ≤ l → ∃ out : List (Nat × Nat × Nat), RulerQueue [(0, l - 1)] out
        ∧ rulerVisits l = (0, none) :: (l - 1, none) :: out.map (fun t => (t.1, some (t.2.1, t.2.2)))
        ∧ rulerOrder l = 0 :: (l - 1) :: out.map Prod.fst)
    ∧ ∀ (before after : List (Nat × Option (Nat × Nat))) (m a b : Nat),
        rulerVisits l = before ++ (m, some (a, b)) :: after →
        m = (a + b) / 2 ∧ a < m ∧ m < b ∧ a ∈ before.map Prod.fst ∧ b ∈ before.map Prod.fst
          ∧ ∀ i ∈ before.map Prod.fst, i ≤ a ∨ b ≤ i

/-- XF.RULERE writes the sequence in ruler order, each value folded around its focus: 0 at the endpoints, else the rounded
linear prediction at m from the ends (a, b) of its interval; and XF.RULERD undoes it (42_transforms.md R190, R192,
R193). -/
def Obligations.RulerResults : Prop :=
  ∀ (s : State) (xs : List Int), (∀ e ∈ xs, 0 ≤ e) →
    let at' := fun i : Nat => xs.getD i 0
    let focus := fun t : Nat × Option (Nat × Nat) => match t.2 with
      | none => 0
      | some (a, b) =>
        roundHalfEven ((at' a : Rat) + ((at' b : Rat) - at' a) * ((t.1 : Rat) - a) / ((b : Rat) - a))
    let ys := (rulerVisits xs.length).map (fun t => foldAround (at' t.1) (focus t))
    (s.sin = xs → Pushable s ys → exec .xfRulere s = .next (afterXf s ys))
    ∧ (s.sin = ys → Pushable s xs → exec .xfRulerd s = .next (afterXf s xs))

/-- XF.PALE and XF.PALD: the palette is the ascending list of the distinct values; its length, its first value and its
steps, then each element's index; and back (42_transforms.md R196, R197). -/
def Obligations.PaletteResults : Prop :=
  ∀ (s : State) (xs p : List Int), p.Pairwise (· < ·) → (∀ x, x ∈ p ↔ x ∈ xs) →
    let ys := (p.length : Int) :: (List.zipWith (· - ·) p (0 :: p) ++ xs.map (fun x => (p.idxOf x : Int)))
    (s.sin = xs → Pushable s ys → exec .xfPale s = .next (afterXf s ys))
    ∧ (s.sin = ys → Pushable s xs → exec .xfPald s = .next (afterXf s xs))

/-- XF.FLRE, XF.FLRD, XF.MEDE and XF.MEDD on a non-empty sequence, and on the empty one (42_transforms.md
R198..R201). -/
def Obligations.FloorAndMedianResults : Prop :=
  ∀ s : State,
    (∀ f ∈ s.sin, (∀ e ∈ s.sin, f ≤ e) → Pushable s (f :: s.sin.map (fun x => x - f)) →
      exec .xfFlre s = .next (afterXf s (f :: s.sin.map (fun x => x - f))))
    ∧ (∀ (f : Int) (es : List Int), s.sin = f :: es → (∀ e ∈ es, 0 ≤ e) → Pushable s (es.map (fun e => e + f)) →
      exec .xfFlrd s = .next (afterXf s (es.map (fun e => e + f))))
    ∧ (∀ (sorted : List Int) (m : Int), sorted.Perm s.sin → sorted.Pairwise (· ≤ ·) →
      sorted[(s.sin.length - 1) / 2]? = some m → Pushable s (m :: s.sin.map (fun x => zigZag (x - m))) →
      exec .xfMede s = .next (afterXf s (m :: s.sin.map (fun x => zigZag (x - m)))))
    ∧ (∀ (m : Int) (es : List Int), s.sin = m :: es → (∀ e ∈ es, 0 ≤ e) →
      Pushable s (es.map (fun e => unZigZag e + m)) →
      exec .xfMedd s = .next (afterXf s (es.map (fun e => unZigZag e + m))))
    ∧ (s.sin = [] → ∀ i ∈ [Instr.xfFlre, .xfFlrd, .xfMede, .xfMedd], exec i s = .next (complete s))

/-- How the transforms refuse an element, the first failing one in stream order after elements that pass (42_transforms.md
R173, R174, R176, R177, R192, R193, R199, R201, 60_exceptions.md R330); a focus out of range; a tracked-sum item beyond the
budget or cut short (R182, R183); a malformed palette heading (R197); and an output that does not fit SOUT (20_memory.md
R73). -/
def Obligations.TransformRefusals : Prop :=
  (∀ s : State,
    (2 ^ 30 ≤ s.arg0.toNat → ∀ i ∈ [Instr.xfFzze, .xfFzzd],
      exec i s = .next (raiseError (domainErr 0x30#8 (.val s.arg0.toNat)) s))
    ∧ (∀ (pre post : List Int) (e : Int), s.sin = pre ++ e :: post → (∀ x ∈ pre, 0 ≤ x) → e < 0 →
      let refused := fun i : Instr => exec i s = .next (raiseError (domainErr 0x30#8 (.val e)) s)
      (Pushable s (pre.map unZigZag) → refused .xfZzd)
      ∧ (s.arg0.toNat < 2 ^ 30 → Pushable s (pre.map (fun v => foldAround v s.arg0.toNat)) → refused .xfFzze)
      ∧ (s.arg0.toNat < 2 ^ 30 → Pushable s (pre.map (fun u => unfoldAround u s.arg0.toNat)) → refused .xfFzzd)
      ∧ refused .xfRulere ∧ refused .xfRulerd)
    ∧ (∀ (h : Int) (pre post : List Int) (e : Int), s.sin = h :: (pre ++ e :: post) → (∀ x ∈ pre, 0 ≤ x) → e < 0 →
      (Pushable s (pre.map (fun x => x + h)) →
        exec .xfFlrd s = .next (raiseError (parseErr 0x15#8 (.val e)) s))
      ∧ (Pushable s (pre.map (fun x => unZigZag x + h)) →
        exec .xfMedd s = .next (raiseError (parseErr 0x15#8 (.val e)) s)))
    ∧ (s.sin ≠ [] → s.sout.length = 8192 →
      ∀ i ∈ [Instr.xfDeltae, .xfDeltad, .xfZze, .xfPale, .xfFlre, .xfMede],
        exec i s = .next (raiseError (capacityErr 0x61#8 (.val 8192)) s))
    ∧ (∀ (pre post : List Int) (e : Int), s.sin = pre ++ e :: post → Pushable s (pre.map zigZag) →
      s.sout.length + pre.length < 8192 → (e < -2 ^ 30 ∨ 2 ^ 30 ≤ e) →
      exec .xfZze s = .next (raiseError (domainErr 0x62#8 (.val (zigZag e))) s)))
  ∧ (∀ (s : State) (ns : List Nat), ns.sum ≤ s.arg0.toNat →
    let bits := tsumBits s.arg0.toNat ns
    let width := Nat.clog 2 (s.arg0.toNat - ns.sum + 1)
    (∀ (e : Int) (post : List Int), s.sin = ns.map Int.ofNat ++ e :: post →
      s.bout.length + bits.length ≤ 2 ^ 20 → (e < 0 ∨ ((s.arg0.toNat - ns.sum : Nat) : Int) < e) →
      exec .xfTsume s = .next (raiseError (domainErr 0x32#8 (.val e)) s))
    ∧ (ns.length < s.arg1.toNat → Pushable s (ns.map Int.ofNat) →
      (∀ cut : Bits, s.bin = bits ++ cut → cut.length < width →
        exec .xfTsumd s = .next (raiseError (parseErr 0x10#8 (.val ns.sum)) s))
      ∧ (∀ (m : Nat) (rest : Bits), s.bin = bits ++ binMsb width m ++ rest → m < 2 ^ width →
          s.arg0.toNat - ns.sum < m →
          exec .xfTsumd s = .next (raiseError (parseErr 0x14#8 (.val m)) s))))
  ∧ (∀ s : State,
    let refused := fun info : Int => exec .xfPald s = .next (raiseError (parseErr 0x15#8 (.val info)) s)
    (s.sin = [] → refused 0)
    ∧ (∀ (k : Int) (es : List Int), s.sin = k :: es → (k < 0 ∨ (es.length : Int) < k) → refused 0)
    ∧ (∀ (k : Nat) (p d : Int) (pre post : List Int), s.sin = (k : Int) :: p :: (pre ++ d :: post) →
      (∀ x ∈ pre, 0 < x) → d ≤ 0 → pre.length + 1 < k → k ≤ pre.length + post.length + 2 →
      refused (pre.length + 1 : Nat))
    ∧ (∀ (p pre post : List Int) (e : Int), p.Pairwise (· < ·) →
      s.sin = (p.length : Int) :: (List.zipWith (· - ·) p (0 :: p) ++ (pre ++ e :: post)) →
      (∀ x ∈ pre, 0 ≤ x ∧ x < p.length) → (e < 0 ∨ (p.length : Int) ≤ e) →
      Pushable s (pre.map (fun x => p.getD x.toNat 0)) → refused e))

/-! Cell Catalogue. -/

/-- CAT.INIT (43_catalogue.md R220), and the argument checks of the CAT commands, in their order (R215). That the info
names N when N and V both fail is the model's reading (log 9). -/
def Obligations.CatInitAndChecks : Prop :=
  (∀ s : State, s.cer.phase ≠ .active →
    (GeometryOk s.cfgN.toNat s.cfgV.toNat →
      exec .catInit s = .next (complete { s with cat :=
        { valid := true, n := s.cfgN.toNat, v := s.cfgV.toNat,
          cols := List.replicate s.cfgN.toNat { lo := -1, hi := s.cfgV.toNat, rsv := false } } }))
    ∧ (¬(2 ≤ s.cfgN.toNat ∧ s.cfgN.toNat ≤ 4096) →
      exec .catInit s = .next (raiseError (domainErr 0x01#8 (.val s.cfgN.toNat)) s))
    ∧ (2 ≤ s.cfgN.toNat → s.cfgN.toNat ≤ 4096 → ¬(2 ≤ s.cfgV.toNat ∧ s.cfgV.toNat ≤ 65536) →
      exec .catInit s = .next (raiseError (domainErr 0x01#8 (.val s.cfgV.toNat)) s)))
  ∧ (∀ s : State, s.cer.phase ≠ .active → ∀ i ∈ [Instr.catCount, .catStatus, .catElim, .catElimcol, .catClamp, .catLimits],
    (s.cat.valid = false → exec i s = .next (raiseError (integrityErr 0x20#8 (.val s.cur.toNat)) s))
    ∧ (s.cat.valid = true → s.cat.n ≤ s.arg0.toNat →
        exec i s = .next (raiseError (domainErr 0x02#8 (.val s.arg0.toNat)) s))
    ∧ (s.cat.valid = true → s.arg0.toNat < s.cat.n → s.cat.v ≤ s.arg1.toNat →
        i ∈ [Instr.catStatus, .catElim, .catElimcol] →
        exec i s = .next (raiseError (domainErr 0x03#8 (.val s.arg1.toNat)) s)))

/-- CAT.COUNT, CAT.STATUS, CAT.CLAMP and CAT.LIMITS on an existing column (43_catalogue.md R212, R221, R222, R228,
R229). -/
def Obligations.CatReadResults : Prop :=
  ∀ (s : State) (lo hi : Int) (r : Bool), s.cat.valid = true → s.arg0.toNat < s.cat.n →
    s.cat.cols[s.arg0.toNat]? = some { lo := lo, hi := hi, rsv := r } →
    exec .catCount s = .next (complete { s with res0 := BitVec.ofInt 32 (max 0 (hi - lo - 1)) })
    ∧ (s.arg1.toNat < s.cat.v → exec .catStatus s = .next (complete { s with
        res0 := if lo < s.arg1.toNat ∧ (s.arg1.toNat : Int) < hi then 0#32 else 1#32
        res1 := if (lo < s.arg1.toNat ∧ (s.arg1.toNat : Int) < hi) ∧ hi - lo - 1 = 1 then 1#32 else 0#32 }))
    ∧ exec .catLimits s = .next (complete { s with
        res0 := BitVec.ofInt 32 lo
        res1 := BitVec.ofInt 32 hi ||| (if r then 0x80000000#32 else 0#32) })
    ∧ exec .catClamp s = .next
        (if s.arg1.toInt ≤ lo then complete { s with res0 := BitVec.ofInt 32 (lo + 1) }
         else if hi ≤ s.arg1.toInt then complete { s with res0 := BitVec.ofInt 32 (hi - 1) }
         else { complete { s with res0 := s.arg1 } with
                status := { s.status with busy := false, done := true, nochg := true } })

/-- CAT.ELIM and CAT.ELIMCOL on an existing cell (43_catalogue.md R216, R217, R223, R224). -/
def Obligations.CatEliminateResults : Prop :=
  ∀ (s : State) (lo hi : Int) (r : Bool), s.cer.phase ≠ .active → s.cat.valid = true → s.arg0.toNat < s.cat.n →
    s.arg1.toNat < s.cat.v → s.cat.cols[s.arg0.toNat]? = some { lo := lo, hi := hi, rsv := r } → lo + 2 ≤ hi →
    let x := s.arg0.toNat
    let y : Int := s.arg1.toNat
    exec .catElim s = .next
      (if r then raiseError (integrityErr 0x23#8 (.val x)) s
       else if hi - lo - 1 = 1 then raiseError (integrityErr 0x22#8 (.val x)) s
       else if y = lo + 1 then complete { s with
          cat := { s.cat with cols := s.cat.cols.set x { lo := y, hi := hi, rsv := false } }
          res0 := if hi - y - 1 = 1 then 1#32 else 0#32 }
       else if y = hi - 1 then complete { s with
          cat := { s.cat with cols := s.cat.cols.set x { lo := lo, hi := y, rsv := false } }
          res0 := if y - lo - 1 = 1 then 1#32 else 0#32 }
       else raiseError (integrityErr 0x21#8 (.val y)) s)
    ∧ exec .catElimcol s = .next
      (if r then raiseError (integrityErr 0x23#8 (.val x)) s
       else if lo < y ∧ y < hi then complete { s with
          cat := { s.cat with cols := s.cat.cols.set x { lo := y - 1, hi := y + 1, rsv := true } } }
       else raiseError (integrityErr 0x25#8 (.val y)) s)

/-- CAT.IMPMIN and CAT.IMPMAX: every unresolved column is tightened at once, or, if some unresolved column would keep
hi - lo ≤ 4, one of those columns is reported and nothing changes (43_catalogue.md R218, R225, R226). -/
def Obligations.CatImposeResults : Prop :=
  ∀ (s : State) (g : Column → Column) (i : Instr), s.cer.phase ≠ .active → s.cat.valid = true →
    (i = .catImpmin ∧ g = (fun c => if c.rsv then c else { c with lo := max c.lo ((s.arg0.toNat : Int) - 1) })
      ∨ i = .catImpmax ∧ g = (fun c => if c.rsv then c else { c with hi := min c.hi ((s.arg0.toNat : Int) + 1) })) →
    ((∀ c ∈ s.cat.cols, c.rsv = false → 4 < (g c).hi - (g c).lo) →
      exec i s = .next (complete { s with cat := { s.cat with cols := s.cat.cols.map g } }))
    ∧ ((∃ c ∈ s.cat.cols, c.rsv = false ∧ (g c).hi - (g c).lo ≤ 4) →
      ∃ (x : Nat) (c : Column) (k : Nat), s.cat.cols[x]? = some c ∧ c.rsv = false ∧ (g c).hi - (g c).lo ≤ 4
        ∧ exec i s = .next { raiseError (integrityErr 0x24#8 (.val x)) s with free := k })

/-- CAT.EXTREME: the frontier cells of the unresolved columns by ascending x, low side first, a critical column's one
cell once (43_catalogue.md R219, R227). -/
def Obligations.CatExtremeResult : Prop :=
  ∀ s : State, s.cat.valid = true → s.cat.cols.length = s.cat.n →
    let low := s.arg0.getLsbD 0
    let high := s.arg0.getLsbD 1
    let cells : List (Nat × Int) := (List.range s.cat.n).flatMap (fun x =>
      if (columnAt s.cat x).rsv then []
      else (if low then [(x, (columnAt s.cat x).lo + 1)] else [])
        ++ (if high ∧ ¬(low ∧ (columnAt s.cat x).hi - 1 = (columnAt s.cat x).lo + 1)
            then [(x, (columnAt s.cat x).hi - 1)] else []))
    Pushable s (cells.flatMap (fun c => [(c.1 : Int), c.2])) →
      exec .catExtreme s = .next (complete { s with
        sout := s.sout ++ cells.flatMap (fun c => [(c.1 : Int), c.2])
        res0 := BitVec.ofNat 32 cells.length })

/-! Spline. -/

/-- SPL.INIT outside ACTIVE with a legal geometry, method and cache word: the endpoint values by ENDPT, both endpoint
bones, empty caches that satisfy their invariants; a literal endpoint out of range is refused (44_spline.md R240, R241);
that e0 is named when both are out of range is the model's reading (log 9). -/
def Obligations.SplInitResult : Prop :=
  ∀ s : State, s.cer.phase ≠ .active → GeometryOk s.cfgN.toNat s.cfgV.toNat → MethodOk s.cfgMethod →
    locpolField s.cfgCache ≤ 2 →
    let n := s.cfgN.toNat
    let v := s.cfgV.toNat
    let made := fun v0 v1 : Int => ∃ spl : Spline,
      exec .splInit s = .next (complete { s with spl := spl })
        ∧ spl.valid = true ∧ spl.n = n ∧ spl.v = v ∧ spl.cfg = s.cfgMethod
        ∧ spl.bones = ((List.replicate n none).set 0 (some v0)).set (n - 1) (some v1)
        ∧ spl.locPol = locPolOf (locpolField s.cfgCache) ∧ spl.vcEn = vcenField s.cfgCache ∧ spl.vc = []
        ∧ SplineOk spl
    (endptField s.cfgMethod = 0 → made 0 0)
    ∧ (endptField s.cfgMethod = 1 → made ((v / 2 : Nat) : Int) ((v / 2 : Nat) : Int))
    ∧ (endptField s.cfgMethod = 2 → made ((v : Int) - 1) ((v : Int) - 1))
    ∧ (endptField s.cfgMethod = 3 → s.arg1.toNat < v → s.arg2.toNat < v → made s.arg1.toNat s.arg2.toNat)
    ∧ (endptField s.cfgMethod = 3 → v ≤ s.arg1.toNat →
        exec .splInit s = .next (raiseError (domainErr 0x03#8 (.val s.arg1.toNat)) s))
    ∧ (endptField s.cfgMethod = 3 → s.arg1.toNat < v → v ≤ s.arg2.toNat →
        exec .splInit s = .next (raiseError (domainErr 0x03#8 (.val s.arg2.toNat)) s))

/-- SPL.SET outside ACTIVE: operand checks, the no-op on an equal bone, IntegrityError 0x26 on a different one, else the
bone installed, the value-cache entries under its old key dropped, LOC and DIST at their invariants (44_spline.md R260,
R264, R265, R267, R270). -/
def Obligations.SplSetResult : Prop :=
  ∀ s : State, s.cer.phase ≠ .active → s.spl.valid = true →
    let x := s.arg0.toNat
    let y := s.arg1.toNat
    (s.spl.n ≤ x → exec .splSet s = .next (raiseError (domainErr 0x02#8 (.val x)) s))
    ∧ (x < s.spl.n → s.spl.v ≤ y → exec .splSet s = .next (raiseError (domainErr 0x03#8 (.val y)) s))
    ∧ (x < s.spl.n → y < s.spl.v → boneAt s.spl.bones x = some (y : Int) → exec .splSet s = .next (complete s))
    ∧ (∀ z : Int, x < s.spl.n → y < s.spl.v → boneAt s.spl.bones x = some z → z ≠ y →
        exec .splSet s = .next (raiseError (integrityErr 0x26#8 (.val x)) s))
    ∧ (x < s.spl.n → y < s.spl.v → boneAt s.spl.bones x = none →
        let bones := s.spl.bones.set x (some (y : Int))
        exec .splSet s = .next (complete { s with spl := { s.spl with
          bones := bones
          vc := if s.spl.vcEn then s.spl.vc.filter (fun e => e.key ≠ surroundKey s.spl x) else s.spl.vc
          loc := if s.spl.locPol = .nearby then (List.range s.spl.n).map (nearestBone bones) else []
          dist := if s.spl.locPol = .distance then
              (List.range s.spl.n).map (fun x => (nearestBone bones x).map (absDist x)) else [] } }))

/-- SPL.PRED, SPL.PREDALL and CER.SCORE on a sound Spline: the prediction of the current bones, whatever the caches
hold; only the value cache may change (44_spline.md R257, R268, R271, R276, 45_cer.md R288). -/
def Obligations.PredictionCommands : Prop :=
  ∀ s : State, s.spl.valid = true → SplineOk s.spl → CacheValuesOk s.spl →
    let x := s.arg0.toNat
    (x < s.spl.n → ∃ vc : List VcEntry, exec .splPred s = .next (complete { s with
        spl := { s.spl with vc := vc }
        res0 := BitVec.ofInt 32 (purePredict s.spl x)
        res1 := if boneAt s.spl.bones x = none then 0#32 else 1#32 }))
    ∧ (x < s.spl.n → s.arg1.toNat < s.spl.v → ∃ vc : List VcEntry, exec .cerScore s = .next (complete { s with
        spl := { s.spl with vc := vc }
        res0 := BitVec.ofInt 32 ((s.spl.v : Int) - |purePredict s.spl x - s.arg1.toNat|) }))
    ∧ (Pushable s ((List.range s.spl.n).map (purePredict s.spl)) →
      ∃ vc : List VcEntry, exec .splPredall s = .next (complete { s with
        spl := { s.spl with vc := vc }
        sout := s.sout ++ (List.range s.spl.n).map (purePredict s.spl)
        res0 := BitVec.ofNat 32 s.spl.n }))

/-- SPL.BONE and SPL.SURR, with their null markers (44_spline.md R272, R275); and the surroundings of x: two bones on each
side, strictly, nearest inside (R242); on a sound bone array (10_state.md R35) both inner slots of a non-bone are present,
which R242 marks as derived. -/
def Obligations.SurroundingsAndInspection : Prop :=
  (∀ s : State, s.spl.valid = true → s.arg0.toNat < s.spl.n →
    let sr := surroundings s.spl.bones s.arg0.toNat
    let flat := fun p : Option (Nat × Int) => match p with
      | none => [(-1 : Int), -1]
      | some (x, y) => [(x : Int), y]
    let ys := flat sr.l2 ++ flat sr.l1 ++ flat sr.r1 ++ flat sr.r2
    (∀ y : Int, boneAt s.spl.bones s.arg0.toNat = some y →
      exec .splBone s = .next (complete { s with res0 := BitVec.ofInt 32 y, res1 := 1#32 }))
    ∧ (boneAt s.spl.bones s.arg0.toNat = none →
      exec .splBone s = .next (complete { s with res0 := 0xFFFFFFFF#32, res1 := 0#32 }))
    ∧ (Pushable s ys → exec .splSurr s = .next (complete { s with
        sout := s.sout ++ ys
        res0 := BitVec.ofNat 32 (([sr.l2, sr.l1, sr.r1, sr.r2].filter Option.isSome).length) })))
  ∧ (∀ (bones : List (Option Int)) (x : Nat),
    let sr := surroundings bones x
    (∀ i y, sr.l1 = some (i, y) ↔ i < x ∧ boneAt bones i = some y ∧ ∀ j, i < j → j < x → boneAt bones j = none)
    ∧ (∀ i y, sr.r1 = some (i, y) ↔ x < i ∧ boneAt bones i = some y ∧ ∀ j, x < j → j < i → boneAt bones j = none)
    ∧ (∀ i y, sr.l2 = some (i, y) ↔ ∃ k z, sr.l1 = some (k, z) ∧ i < k ∧ boneAt bones i = some y
        ∧ ∀ j, i < j → j < k → boneAt bones j = none)
    ∧ (∀ i y, sr.r2 = some (i, y) ↔ ∃ k z, sr.r1 = some (k, z) ∧ k < i ∧ boneAt bones i = some y
        ∧ ∀ j, k < j → j < i → boneAt bones j = none)
    ∧ (∀ n v : Nat, BonesOk n v bones → x < n → boneAt bones x = none → sr.l1 ≠ none ∧ sr.r1 ≠ none))

/-- Round of a rational: the nearest integer, an exact half to the even one (44_spline.md R255); and the sinusoidal value is
compared with every rational, and rounded, exactly as the real number of R247. -/
def Obligations.RoundingIsExact : Prop :=
  (∀ q : Rat, (∀ m : Int, |q - roundHalfEven q| ≤ |q - m|) ∧ (q - q.floor = 1 / 2 → Even (roundHalfEven q)))
  ∧ (∀ (y0 y1 : Int) (a h : Nat), 0 < a → a < h →
    let r : ℝ := y0 + (y1 - y0) * (1 / 2 * (1 - Real.cos (Real.pi * (a / h))))
    (∀ q : Rat, ((Num.sine y0 y1 a h).compare q = .lt ↔ r < q) ∧ ((Num.sine y0 y1 a h).compare q = .gt ↔ q < r))
    ∧ (∀ m : Int, |r - (Num.sine y0 y1 a h).round| ≤ |r - m|)
    ∧ (r - ⌊r⌋ = 1 / 2 → Even (Num.sine y0 y1 a h).round))

/-- Predictions at a non-bone x between L1 = (x0, y0) and R1 = (x1, y1), by METHOD with no output filter: hold,
nearest-neighbor, linear, the sinusoidal value rounded (its Round is that of the real number, see RoundingIsExact), the
cubic Hermite value with the slopes of all bones of the neighbourhood, and IDW over all non-null slots (44_spline.md
R244..R251, R258); and the Hermite value, which may leave [min, max] of the ends and [0, V), under span_clip or
global_clip alone (R253, R254). The Hermite value is the linear one with only two bones (R249), and the monotonic filter
never changes it (R256). -/
def Obligations.MethodValues : Prop :=
  (∀ (spl : Spline) (x x0 x1 : Nat) (y0 y1 : Int), boneAt spl.bones x = none →
    (surroundings spl.bones x).l1 = some (x0, y0) → (surroundings spl.bones x).r1 = some (x1, y1) →
    let sr := surroundings spl.bones x
    let h : Rat := (x1 : Rat) - x0
    let t : Rat := ((x : Rat) - x0) / h
    let dM : Rat := ((y1 : Rat) - y0) / h
    let mL : Rat := match sr.l2 with
      | none => dM
      | some (xa, ya) => (((y0 : Rat) - ya) / ((x0 : Rat) - xa) + dM) / 2
    let mR : Rat := match sr.r2 with
      | none => dM
      | some (xb, yb) => (dM + ((yb : Rat) - y1) / ((xb : Rat) - x1)) / 2
    let cubic : Rat := (2 * t ^ 3 - 3 * t ^ 2 + 1) * y0 + (t ^ 3 - 2 * t ^ 2 + t) * h * mL
      + (-2 * t ^ 3 + 3 * t ^ 2) * y1 + (t ^ 3 - t ^ 2) * h * mR
    let near := [sr.l2, sr.l1, sr.r1, sr.r2].filterMap id
    let power := fun q : Nat × Int => |(x : Rat) - q.1| ^ idwpField spl.cfg
    (nfiltField spl.cfg = 0 →
      (methodField spl.cfg = 0 → purePredict spl x = y0)
      ∧ (methodField spl.cfg = 1 → purePredict spl x = if 2 * (x - x0) ≤ x1 - x0 then y0 else y1)
      ∧ (methodField spl.cfg = 2 → purePredict spl x = roundHalfEven (y0 + (y1 - y0) * t))
      ∧ (methodField spl.cfg = 3 → purePredict spl x = (Num.sine y0 y1 (x - x0) (x1 - x0)).round)
      ∧ (methodField spl.cfg = 4 → purePredict spl x = roundHalfEven cubic)
      ∧ (methodField spl.cfg = 5 → idwdField spl.cfg < 2 →
          purePredict spl x = roundHalfEven
            ((near.map (fun q => (q.2 : Rat) / power q)).sum / (near.map (fun q => 1 / power q)).sum)))
    ∧ (methodField spl.cfg = 4 →
      (filterChain spl.cfg = [0] →
        purePredict spl x = roundHalfEven (min (max cubic (min y0 y1 : Int)) (max y0 y1 : Int)))
      ∧ (filterChain spl.cfg = [1] →
        purePredict spl x = roundHalfEven (min (max cubic 0) ((spl.v : Rat) - 1)))))
  ∧ (∀ (bones : List (Option Int)) (x : Nat) (l1 r1 : Nat × Int), boneAt bones x = none →
    (surroundings bones x).l1 = some l1 → (surroundings bones x).r1 = some r1 →
    hermiteValue true (surroundings bones x) l1 r1 x = hermiteValue false (surroundings bones x) l1 r1 x
    ∧ ((surroundings bones x).l2 = none → (surroundings bones x).r2 = none →
        hermiteValue false (surroundings bones x) l1 r1 x
          = l1.2 + ((r1.2 : Rat) - l1.2) * (((x : Rat) - l1.1) / ((r1.1 : Rat) - l1.1))))

/-- Every prediction of a sound Spline fits 32 bits with room: its magnitude is below 2^27 (44_spline.md R258); a chain
with a global_clip anywhere keeps it in [0, V), because no later filter leaves that range (R253..R256). -/
def Obligations.PredictionBound : Prop :=
  ∀ (spl : Spline) (x : Nat), spl.valid = true → SplineOk spl → x < spl.n →
    |purePredict spl x| < 2 ^ 27
    ∧ (1 ∈ filterChain spl.cfg → 0 ≤ purePredict spl x ∧ purePredict spl x < spl.v)

/-- NearestBone: a bone at the least distance, the left one of two equally near (44_spline.md R261); and given x, the
value-cache key determines the surroundings of x, which R263 marks as derived. -/
def Obligations.NearestBoneAndKeyLaws : Prop :=
  (∀ (bones : List (Option Int)) (x b : Nat), nearestBone bones x = some b ↔
    boneAt bones b ≠ none
      ∧ ∀ c, boneAt bones c ≠ none → |(x : Int) - b| < |(x : Int) - c| ∨ (|(x : Int) - b| = |(x : Int) - c| ∧ b ≤ c))
  ∧ (∀ (n v x : Nat) (bones bones' : List (Option Int)), x < n → BonesOk n v bones → BonesOk n v bones' →
    boneAt bones x = none → boneAt bones' x = none →
    surroundKeyOf n v (surroundings bones x) = surroundKeyOf n v (surroundings bones' x) →
    surroundings bones x = surroundings bones' x)

/-! CER. -/

/-- CER.INIT of an encode: ACTIVE, the samples popped, the endpoint columns resolved, the configuration and cache policy
snapshots taken, the caches at their invariants, and the rankings in key order with the two frontier cells of every other
column, each scored by the current prediction (45_cer.md R283, R290, R298, 44_spline.md R240); too few samples are
refused. -/
def Obligations.CerInitEncodes : Prop :=
  ∀ s : State, s.arg0.toNat = 0 ∨ s.arg0.toNat = 2 →
    (EncodeReady s →
      let n := s.cfgN.toNat
      let v := s.cfgV.toNat
      ∃ (spl : Spline) (cat : Catalogue) (rank : List RankEntry),
        exec .cerInit s = .next (complete { s with
          sin := s.sin.drop n
          spl := spl
          cat := cat
          cer := { phase := .active, mode := .encode, psrc := if s.arg0.toNat = 2 then .bin else .sin, n := n, v := v,
                   cfgMethod := s.cfgMethod, cfgCodec := s.cfgCodec, cfgIotaMax := s.cfgIotaMax,
                   plain := (s.sin.take n).map some, press := [], rank := rank, s := 0, runIndex := 0, elims := 0,
                   hits := 0, absorbs := 0 } })
        ∧ spl.valid = true ∧ spl.n = n ∧ spl.v = v ∧ spl.cfg = s.cfgMethod
        ∧ spl.locPol = locPolOf (locpolField s.cfgCache) ∧ spl.vcEn = vcenField s.cfgCache
        ∧ spl.bones = ((List.replicate n none).set 0 s.sin[0]?).set (n - 1) s.sin[n - 1]?
        ∧ SplineOk spl ∧ CacheFormOk spl ∧ CacheValuesOk spl
        ∧ cat.valid = true ∧ cat.n = n ∧ cat.v = v ∧ cat.cols.length = n
        ∧ (∀ x < n, cat.cols[x]? = some (if x = 0 ∨ x = n - 1 then resolvedColumn (s.sin.getD x 0)
            else { lo := -1, hi := v, rsv := false }))
        ∧ rank.length = 2 * (n - 2) ∧ RankSorted rank
        ∧ (∀ x, 0 < x → x < n - 1 → Ranked rank x 0 ∧ Ranked rank x ((v : Int) - 1))
        ∧ (∀ e ∈ rank, 0 < e.x ∧ e.x < n - 1 ∧ (e.y = 0 ∨ e.y = (v : Int) - 1)
            ∧ e.score = (v : Int) - |purePredict spl e.x - e.y|))
    ∧ (GeometryOk s.cfgN.toNat s.cfgV.toNat → MethodOk s.cfgMethod → locpolField s.cfgCache ≤ 2 →
        s.sin.length < s.cfgN.toNat →
        exec .cerInit s = .next (raiseError (domainErr 0x04#8 (.val s.cfgN.toNat)) s))

/-- CER.INIT of a decode with press values from SIN: ACTIVE, the endpoint samples known, the others null; a reserved mode
word or an endpoint out of range is refused (45_cer.md R290, R298); that the first failing endpoint is named is the
model's reading (log 9). -/
def Obligations.CerInitDecodes : Prop :=
  ∀ s : State,
    (4 ≤ s.arg0.toNat → exec .cerInit s = .next (raiseError (illegalErr 0x56#8 (.val s.arg0.toNat)) s))
    ∧ (s.arg0.toNat = 1 → GeometryOk s.cfgN.toNat s.cfgV.toNat → MethodOk s.cfgMethod → locpolField s.cfgCache ≤ 2 →
      (s.cfgV.toNat ≤ s.arg1.toNat →
        exec .cerInit s = .next (raiseError (domainErr 0x03#8 (.val s.arg1.toNat)) s))
      ∧ (s.arg1.toNat < s.cfgV.toNat → s.cfgV.toNat ≤ s.arg2.toNat →
        exec .cerInit s = .next (raiseError (domainErr 0x03#8 (.val s.arg2.toNat)) s))
      ∧ (s.arg1.toNat < s.cfgV.toNat → s.arg2.toNat < s.cfgV.toNat →
        ∃ t, exec .cerInit s = .next t ∧ t.status = { s.status with busy := false, done := true }
          ∧ t.cer.phase = .active ∧ t.cer.mode = .decode ∧ t.cer.psrc = .sin ∧ t.sin = s.sin ∧ t.bin = s.bin
          ∧ t.cer.n = s.cfgN.toNat ∧ t.cer.v = s.cfgV.toNat
          ∧ t.cer.plain = ((List.replicate s.cfgN.toNat none).set 0 (some (s.arg1.toNat : Int))).set (s.cfgN.toNat - 1)
              (some (s.arg2.toNat : Int))
          ∧ t.spl.bones = t.cer.plain ∧ ActiveOk t))

/-- CER.RUN in encode on an ACTIVE block that satisfies the invariant always completes: it emits its elimination count as
the next press value and ends in a hit, still ACTIVE, or as the final run at empty rankings, DONE (45_cer.md R285, R286,
R293, R294, R295, R299). -/
def Obligations.EncodingRunCompletes : Prop :=
  ∀ s : State, BlockInv s → s.cer.phase = .active → s.cer.mode = .encode →
    ∃ (t : State) (final : Bool), exec .cerRun s = .next t
      ∧ t.status = { s.status with busy := false, done := true } ∧ t.seq = .idle
      ∧ t.res0 = BitVec.ofNat 32 t.cer.s ∧ t.res1 = (if final then 1#32 else 0#32)
      ∧ t.cer.press = s.cer.press ++ [t.cer.s] ∧ t.cer.elims = s.cer.elims + t.cer.s
      ∧ t.cer.runIndex = s.cer.runIndex + 1 ∧ t.cer.plain = s.cer.plain
      ∧ (if final then t.cer.phase = .done ∧ t.cer.rank = [] ∧ t.cer.hits = s.cer.hits
         else t.cer.phase = .active ∧ t.cer.hits = s.cer.hits + 1)
      ∧ t.bin = s.bin ∧ t.bout = s.bout ∧ t.sin = s.sin ∧ t.sout = s.sout

/-- CER.BLOCK in encode on an ACTIVE block that satisfies the invariant always completes, DONE, with every column
resolved and the laws of 45_cer.md R293 and R295 (R300). -/
def Obligations.EncodingBlockCompletes : Prop :=
  ∀ s : State, BlockInv s → s.cer.phase = .active → s.cer.mode = .encode →
    ∃ t : State, exec .cerBlock s = .next t ∧ t.status = { s.status with busy := false, done := true }
      ∧ t.res0 = BitVec.ofNat 32 t.cer.runIndex ∧ t.res1 = BitVec.ofNat 32 t.cer.elims
      ∧ t.cer.phase = .done ∧ t.cer.rank = [] ∧ t.cer.plain = s.cer.plain ∧ s.cer.press <+: t.cer.press
      ∧ t.cer.press.sum = t.cer.elims ∧ t.cer.press.length = t.cer.hits + 1
      ∧ t.cer.hits + t.cer.absorbs + 2 = t.cer.n ∧ t.cer.n = s.cer.n
      ∧ t.cer.elims ≤ (t.cer.n - 2) * (t.cer.v - 1)
      ∧ (∀ x < t.cer.n, (columnAt t.cat x).rsv = true ∧ boneAt t.spl.bones x = plainAt t.cer.plain x)
      ∧ t.bin = s.bin ∧ t.bout = s.bout ∧ t.sin = s.sin ∧ t.sout = s.sout

/-- CER.RUN in decode on an ACTIVE block that satisfies the invariant (45_cer.md R285, R287, R296, 60_exceptions.md R324,
R325). With press value 0 it hits at the first pop: the least ranked cell becomes the sample and the bone of its column,
which leaves the rankings. With no press value left it fails with 0x16, with a negative one with 0x17, with one beyond all
eliminations that remain with 0x19, at the end of the rankings; it fails with PHASE = FAILED, the CER, Spline and
catalogue at the point of the error, and everything else, the streams too, as before. -/
def Obligations.DecodingRunHitsAtOnce : Prop :=
  ∀ s : State, BlockInv s → s.cer.phase = .active → s.cer.mode = .decode →
    let failsAtFirst := fun err : Err => exec .cerRun s = .next (raiseError err { s with
      cer := { s.cer with rank := s.cer.rank.tail, s := 0, phase := .failed } })
    (s.cer.psrc = .sin →
      (∀ (e : RankEntry) (ranks : List RankEntry) (sin : List Int), s.sin = 0 :: sin → s.cer.rank = e :: ranks →
        ∃ t : State, exec .cerRun s = .next t ∧ t.status = { s.status with busy := false, done := true }
          ∧ t.res0 = 0#32 ∧ t.res1 = 0#32 ∧ t.sin = sin
          ∧ t.cer = { s.cer with
              plain := s.cer.plain.set e.x (some e.y)
              press := s.cer.press ++ [0]
              rank := ranks.filter (fun f => f.x ≠ e.x)
              s := 0
              runIndex := s.cer.runIndex + 1
              hits := s.cer.hits + 1 }
          ∧ t.spl.bones = s.spl.bones.set e.x (some e.y)
          ∧ t.cat = { s.cat with cols := s.cat.cols.set e.x { lo := e.y - 1, hi := e.y + 1, rsv := true } })
      ∧ (s.sin = [] → failsAtFirst (parseErr 0x16#8 (.val s.cer.runIndex)))
      ∧ (∀ (p : Int) (sin : List Int), s.sin = p :: sin → p < 0 → failsAtFirst (parseErr 0x17#8 (.val p)))
      ∧ (∀ (p : Int) (sin : List Int), s.sin = p :: sin → remainingElims s.cat < p →
        ∃ (spl : Spline) (cat : Catalogue) (cer : Cer),
          exec .cerRun s = .next (raiseError (parseErr 0x19#8 (.val (remainingElims s.cat)))
            { s with spl := spl, cat := cat, cer := cer })
          ∧ cer.phase = .failed ∧ cer.rank = [] ∧ cer.press = s.cer.press ++ [p.toNat]
          ∧ (cer.s : Int) = remainingElims s.cat ∧ cer.elims = s.cer.elims + cer.s))
    ∧ (∀ c : Codec, s.cer.psrc = .bin → rcidField s.cer.cfgCodec = c.id →
        (isIota c = true → 3 ≤ s.cer.cfgIotaMax.toNat) → s.bin = [] →
        failsAtFirst (parseErr 0x16#8 (.val s.cer.runIndex)))

/-- The symmetry law (45_cer.md R292): a decoder of the same N, V, method word and endpoints, given the encoder's press
data in SIN, completes, consumes exactly that data and ends with the encoder's plaintext, whatever legal caches it has
(44_spline.md R268, 70_reset_and_hazards.md R363). -/
def Obligations.DecoderFollowsEncoder : Prop :=
  ∀ (s e t d : State) (rest : List Int), EncodeReady s → s.arg0.toNat = 0 → exec .cerInit s = .next e →
    exec .cerBlock e = .next t →
    d.cfgN = s.cfgN → d.cfgV = s.cfgV → d.cfgMethod = s.cfgMethod → locpolField d.cfgCache ≤ 2 → d.arg0 = 1#32 →
    some (d.arg1.toNat : Int) = (plaintext s).head? → some (d.arg2.toNat : Int) = (plaintext s).getLast? →
    d.sin = t.cer.press.map Int.ofNat ++ rest →
    ∃ f g : State, exec .cerInit d = .next f ∧ exec .cerBlock f = .next g
      ∧ g.status = { d.status with busy := false, done := true }
      ∧ g.cer.phase = .done ∧ g.cer.plain = (plaintext s).map some ∧ g.sin = rest
      ∧ g.cer.press = t.cer.press ∧ g.cer.elims = t.cer.elims ∧ g.cer.hits = t.cer.hits
      ∧ g.cer.absorbs = t.cer.absorbs ∧ g.spl.bones = t.spl.bones ∧ g.cat = t.cat

/-- CER.ENCBLK with a run codec other than an Iota completes and writes the block format (45_cer.md R304, R305): the
premise on BOUT bounds what the block can need (R293). Left out: the two Iota codecs, whose bound M may refuse a run length
that the rankings decide. And a reserved field of CFG_METHOD, CFG_CACHE or CFG_CODEC (30_encoding.md R97), or an Iota bound
below 3, is refused with nothing changed; that the codec is checked before block initialisation is log 13. -/
def Obligations.EncodeBlockCompletes : Prop :=
  (∀ (s : State) (c : Codec), EncodeReady s → rcidField s.cfgCodec = c.id → isIota c = false →
    s.bout.length + (s.cfgN.toNat - 2) * (s.cfgV.toNat - 1) + 9 * s.cfgN.toNat + 100 ≤ 2 ^ 20 →
    ∃ (t : State) (bits : Bits) (v0 v1 : Nat), exec .cerEncblk s = .next t
      ∧ t.status = { s.status with busy := false, done := true } ∧ t.cer.phase = .done
      ∧ (plaintext s).head? = some (v0 : Int) ∧ (plaintext s).getLast? = some (v1 : Int)
      ∧ bits = encGamma s.cfgN.toNat ++ encGamma s.cfgV.toNat ++ binMsb 4 (methodField s.cfgMethod)
          ++ binMsb (Nat.clog 2 s.cfgV.toNat) v0 ++ binMsb (Nat.clog 2 s.cfgV.toNat) v1
          ++ codewords c 0 .unsigned (t.cer.press.map Int.ofNat)
      ∧ t.bout = s.bout ++ bits ∧ t.res0 = BitVec.ofNat 32 bits.length
      ∧ t.res1 = BitVec.ofNat 32 t.cer.press.length ∧ t.cer.plain = (plaintext s).map some
      ∧ t.sin = s.sin.drop s.cfgN.toNat ∧ t.bin = s.bin ∧ t.sout = s.sout
      ∧ t.cer.press.sum = t.cer.elims ∧ t.cer.press.length = t.cer.hits + 1)
  ∧ (∀ s : State, GeometryOk s.cfgN.toNat s.cfgV.toNat →
    (¬MethodOk s.cfgMethod ∨ 2 < locpolField s.cfgCache ∨ 13 < rcidField s.cfgCodec →
      exec .cerEncblk s = .next (raiseError (illegalErr 0x55#8 .unstated) s))
    ∧ (∀ c : Codec, MethodOk s.cfgMethod → locpolField s.cfgCache ≤ 2 → rcidField s.cfgCodec = c.id →
      isIota c = true → s.cfgIotaMax.toNat < 3 →
      exec .cerEncblk s = .next (raiseError (domainErr 0x31#8 (.val s.cfgIotaMax.toNat)) s)))

/-- The block round trip (45_cer.md R292, R304, R306): what CER.ENCBLK wrote, followed by any bits, CER.DECBLK reads back
to the plaintext, leaving exactly those bits, when both sides have the same filters, run codec and Iota bound; the METHOD
comes from the header, and the caches need not match (44_spline.md R268, 70_reset_and_hazards.md R363). -/
def Obligations.BlockRoundTrip : Prop :=
  ∀ (s t d : State) (bits rest : Bits), EncodeReady s → exec .cerEncblk s = .next t → t.status.done = true →
    t.bout = s.bout ++ bits →
    withMethod d.cfgMethod (methodField s.cfgMethod) = s.cfgMethod → d.cfgCodec = s.cfgCodec →
    d.cfgIotaMax = s.cfgIotaMax → locpolField d.cfgCache ≤ 2 → d.bin = bits ++ rest → Pushable d (plaintext s) →
    ∃ u : State, exec .cerDecblk d = .next u ∧ u.status = { d.status with busy := false, done := true }
      ∧ u.sout = d.sout ++ plaintext s ∧ u.bin = rest ∧ u.res0 = s.cfgN ∧ u.res1 = BitVec.ofNat 32 bits.length
      ∧ u.cer.phase = .done ∧ u.cer.press = t.cer.press ∧ u.sin = d.sin ∧ u.bout = d.bout

/-- CER.DECBLK of a two-sample block, whose only run is the final one with press value 0 (45_cer.md R298, R306); and how
the header is refused, with nothing changed (R306): N or V out of range 0x1A, an interpolation_id above 5 0x18, an endpoint
out of range 0x1B; that the first of two failing fields is named is the model's reading (log 9). -/
def Obligations.DecodeTwoSampleBlock : Prop :=
  (∀ (s : State) (c : Codec) (v method v0 v1 : Nat) (rest : Bits), GeometryOk 2 v → method ≤ 5 → v0 < v → v1 < v →
    MethodOk (withMethod s.cfgMethod method) → locpolField s.cfgCache ≤ 2 → rcidField s.cfgCodec = c.id →
    (isIota c = true → 3 ≤ s.cfgIotaMax.toNat) → Pushable s [(v0 : Int), v1] →
    let bits := encGamma 2 ++ encGamma v ++ binMsb 4 method ++ binMsb (Nat.clog 2 v) v0 ++ binMsb (Nat.clog 2 v) v1
      ++ codeword c s.cfgIotaMax.toNat .unsigned 0
    s.bin = bits ++ rest →
    ∃ spl : Spline, exec .cerDecblk s = .next (complete { s with
        bin := rest
        sout := s.sout ++ [(v0 : Int), v1]
        res0 := 2#32
        res1 := BitVec.ofNat 32 bits.length
        spl := spl
        cat := { valid := true, n := 2, v := v, cols := [resolvedColumn v0, resolvedColumn v1] }
        cer := { phase := .done, mode := .decode, psrc := .bin, n := 2, v := v,
                 cfgMethod := withMethod s.cfgMethod method, cfgCodec := s.cfgCodec, cfgIotaMax := s.cfgIotaMax,
                 plain := [some (v0 : Int), some (v1 : Int)], press := [0], rank := [], s := 0, runIndex := 1,
                 elims := 0, hits := 0, absorbs := 0 } })
      ∧ spl.valid = true ∧ spl.n = 2 ∧ spl.v = v ∧ spl.bones = [some (v0 : Int), some (v1 : Int)] ∧ SplineOk spl)
  ∧ (∀ (s : State) (n v : Nat) (body : Bits), 1 ≤ n → 1 ≤ v → s.bin = encGamma n ++ encGamma v ++ body →
    let refused := fun (sub : BitVec 8) (info : Nat) =>
      exec .cerDecblk s = .next (raiseError (parseErr sub (.val info)) s)
    (n < 2 ∨ 4096 < n → refused 0x1A#8 n)
    ∧ (2 ≤ n → n ≤ 4096 → v < 2 ∨ 65536 < v → refused 0x1A#8 v)
    ∧ (GeometryOk n v → ∀ (id : Nat) (ends : Bits), id < 16 → body = binMsb 4 id ++ ends →
      (5 < id → refused 0x18#8 id)
      ∧ (∀ (v0 v1 : Nat) (rest : Bits), id ≤ 5 → v0 < 2 ^ Nat.clog 2 v → v1 < 2 ^ Nat.clog 2 v →
        ends = binMsb (Nat.clog 2 v) v0 ++ binMsb (Nat.clog 2 v) v1 ++ rest →
        (v ≤ v0 → refused 0x1B#8 v0) ∧ (v0 < v → v ≤ v1 → refused 0x1B#8 v1))))

/-- CER.FILL after a block, CER.PRESS and CER.PLAIN in any phase (45_cer.md R301, R302, R311): nulls become clamped
predictions of the current bones. That CER.FILL takes the Spline as it now is and clamps with CER.V, also after SPL.INIT
made another Spline, is the model's reading (log 28). -/
def Obligations.CerReadAndFill : Prop :=
  ∀ s : State,
    (Pushable s (s.cer.press.map Int.ofNat) → exec .cerPress s = .next (complete { s with
      sout := s.sout ++ s.cer.press.map Int.ofNat
      res0 := BitVec.ofNat 32 s.cer.press.length }))
    ∧ (Pushable s (s.cer.plain.map (fun p => p.getD (-1))) → exec .cerPlain s = .next (complete { s with
      sout := s.sout ++ s.cer.plain.map (fun p => p.getD (-1))
      res0 := BitVec.ofNat 32 (s.cer.plain.countP Option.isSome) }))
    ∧ (s.cer.phase = .done ∨ s.cer.phase = .failed → s.spl.valid = true → SplineOk s.spl → CacheValuesOk s.spl →
      s.cer.plain.length ≤ s.spl.n →
      ∃ vc : List VcEntry, exec .cerFill s = .next (complete { s with
        spl := { s.spl with vc := vc }
        cer := { s.cer with plain := s.cer.plain.mapIdx (fun x p =>
          some (p.getD (min (max (purePredict s.spl x) 0) ((s.cer.v : Int) - 1)))) }
        res0 := BitVec.ofNat 32 (s.cer.plain.countP Option.isNone) }))

end
end

