-- ==== Sys2Proof/Laws/State.lean ====
section
/-! SUPPORT. One lemma per field of State per shared update, each true by unfolding, so that no proof unfolds one. -/

namespace Sys2Proof.Machine

/-! `complete`. -/

@[simp] theorem complete_seq (s : State) : (complete s).seq = .idle := rfl
@[simp] theorem complete_cur (s : State) : (complete s).cur = s.cur := rfl
@[simp] theorem complete_arg0 (s : State) : (complete s).arg0 = s.arg0 := rfl
@[simp] theorem complete_arg1 (s : State) : (complete s).arg1 = s.arg1 := rfl
@[simp] theorem complete_arg2 (s : State) : (complete s).arg2 = s.arg2 := rfl
@[simp] theorem complete_arg3 (s : State) : (complete s).arg3 = s.arg3 := rfl
@[simp] theorem complete_res0 (s : State) : (complete s).res0 = s.res0 := rfl
@[simp] theorem complete_res1 (s : State) : (complete s).res1 = s.res1 := rfl
@[simp] theorem complete_status (s : State) : (complete s).status = statusDone s.status := rfl
@[simp] theorem complete_errCmd (s : State) : (complete s).errCmd = s.errCmd := rfl
@[simp] theorem complete_errInfo (s : State) : (complete s).errInfo = s.errInfo := rfl
@[simp] theorem complete_errSub (s : State) : (complete s).errSub = s.errSub := rfl
@[simp] theorem complete_cfgN (s : State) : (complete s).cfgN = s.cfgN := rfl
@[simp] theorem complete_cfgV (s : State) : (complete s).cfgV = s.cfgV := rfl
@[simp] theorem complete_cfgMethod (s : State) : (complete s).cfgMethod = s.cfgMethod := rfl
@[simp] theorem complete_cfgCodec (s : State) : (complete s).cfgCodec = s.cfgCodec := rfl
@[simp] theorem complete_cfgIotaMax (s : State) : (complete s).cfgIotaMax = s.cfgIotaMax := rfl
@[simp] theorem complete_cfgHaven (s : State) : (complete s).cfgHaven = s.cfgHaven := rfl
@[simp] theorem complete_cfgCache (s : State) : (complete s).cfgCache = s.cfgCache := rfl
@[simp] theorem complete_bin (s : State) : (complete s).bin = s.bin := rfl
@[simp] theorem complete_bout (s : State) : (complete s).bout = s.bout := rfl
@[simp] theorem complete_sin (s : State) : (complete s).sin = s.sin := rfl
@[simp] theorem complete_sout (s : State) : (complete s).sout = s.sout := rfl
@[simp] theorem complete_spl (s : State) : (complete s).spl = s.spl := rfl
@[simp] theorem complete_cat (s : State) : (complete s).cat = s.cat := rfl
@[simp] theorem complete_cer (s : State) : (complete s).cer = s.cer := rfl
@[simp] theorem complete_host (s : State) : (complete s).host = s.host := rfl
@[simp] theorem complete_rdata (s : State) : (complete s).rdata = s.rdata := rfl
@[simp] theorem complete_free (s : State) : (complete s).free = s.free := rfl

/-! `completeNoChange`. -/

@[simp] theorem completeNoChange_seq (s : State) : (completeNoChange s).seq = .idle := rfl
@[simp] theorem completeNoChange_cur (s : State) : (completeNoChange s).cur = s.cur := rfl
@[simp] theorem completeNoChange_arg0 (s : State) : (completeNoChange s).arg0 = s.arg0 := rfl
@[simp] theorem completeNoChange_arg1 (s : State) : (completeNoChange s).arg1 = s.arg1 := rfl
@[simp] theorem completeNoChange_arg2 (s : State) : (completeNoChange s).arg2 = s.arg2 := rfl
@[simp] theorem completeNoChange_arg3 (s : State) : (completeNoChange s).arg3 = s.arg3 := rfl
@[simp] theorem completeNoChange_res0 (s : State) : (completeNoChange s).res0 = s.res0 := rfl
@[simp] theorem completeNoChange_res1 (s : State) : (completeNoChange s).res1 = s.res1 := rfl
@[simp] theorem completeNoChange_status (s : State) : (completeNoChange s).status = statusNoChange s.status := rfl
@[simp] theorem completeNoChange_errCmd (s : State) : (completeNoChange s).errCmd = s.errCmd := rfl
@[simp] theorem completeNoChange_errInfo (s : State) : (completeNoChange s).errInfo = s.errInfo := rfl
@[simp] theorem completeNoChange_errSub (s : State) : (completeNoChange s).errSub = s.errSub := rfl
@[simp] theorem completeNoChange_cfgN (s : State) : (completeNoChange s).cfgN = s.cfgN := rfl
@[simp] theorem completeNoChange_cfgV (s : State) : (completeNoChange s).cfgV = s.cfgV := rfl
@[simp] theorem completeNoChange_cfgMethod (s : State) : (completeNoChange s).cfgMethod = s.cfgMethod := rfl
@[simp] theorem completeNoChange_cfgCodec (s : State) : (completeNoChange s).cfgCodec = s.cfgCodec := rfl
@[simp] theorem completeNoChange_cfgIotaMax (s : State) : (completeNoChange s).cfgIotaMax = s.cfgIotaMax := rfl
@[simp] theorem completeNoChange_cfgHaven (s : State) : (completeNoChange s).cfgHaven = s.cfgHaven := rfl
@[simp] theorem completeNoChange_cfgCache (s : State) : (completeNoChange s).cfgCache = s.cfgCache := rfl
@[simp] theorem completeNoChange_bin (s : State) : (completeNoChange s).bin = s.bin := rfl
@[simp] theorem completeNoChange_bout (s : State) : (completeNoChange s).bout = s.bout := rfl
@[simp] theorem completeNoChange_sin (s : State) : (completeNoChange s).sin = s.sin := rfl
@[simp] theorem completeNoChange_sout (s : State) : (completeNoChange s).sout = s.sout := rfl
@[simp] theorem completeNoChange_spl (s : State) : (completeNoChange s).spl = s.spl := rfl
@[simp] theorem completeNoChange_cat (s : State) : (completeNoChange s).cat = s.cat := rfl
@[simp] theorem completeNoChange_cer (s : State) : (completeNoChange s).cer = s.cer := rfl
@[simp] theorem completeNoChange_host (s : State) : (completeNoChange s).host = s.host := rfl
@[simp] theorem completeNoChange_rdata (s : State) : (completeNoChange s).rdata = s.rdata := rfl
@[simp] theorem completeNoChange_free (s : State) : (completeNoChange s).free = s.free := rfl

/-! `raiseError`. -/

@[simp] theorem raiseError_seq (e : Err) (s : State) : (raiseError e s).seq = .idle := rfl
@[simp] theorem raiseError_cur (e : Err) (s : State) : (raiseError e s).cur = s.cur := rfl
@[simp] theorem raiseError_arg0 (e : Err) (s : State) : (raiseError e s).arg0 = s.arg0 := rfl
@[simp] theorem raiseError_arg1 (e : Err) (s : State) : (raiseError e s).arg1 = s.arg1 := rfl
@[simp] theorem raiseError_arg2 (e : Err) (s : State) : (raiseError e s).arg2 = s.arg2 := rfl
@[simp] theorem raiseError_arg3 (e : Err) (s : State) : (raiseError e s).arg3 = s.arg3 := rfl
@[simp] theorem raiseError_res0 (e : Err) (s : State) : (raiseError e s).res0 = s.res0 := rfl
@[simp] theorem raiseError_res1 (e : Err) (s : State) : (raiseError e s).res1 = s.res1 := rfl
@[simp] theorem raiseError_status (e : Err) (s : State) : (raiseError e s).status = statusRaise e.kind s.status := rfl
@[simp] theorem raiseError_errCmd (e : Err) (s : State) : (raiseError e s).errCmd = s.cur := rfl
@[simp] theorem raiseError_errInfo (e : Err) (s : State) : (raiseError e s).errInfo = infoWord e.info s.free := rfl
@[simp] theorem raiseError_errSub (e : Err) (s : State) : (raiseError e s).errSub = e.sub := rfl
@[simp] theorem raiseError_cfgN (e : Err) (s : State) : (raiseError e s).cfgN = s.cfgN := rfl
@[simp] theorem raiseError_cfgV (e : Err) (s : State) : (raiseError e s).cfgV = s.cfgV := rfl
@[simp] theorem raiseError_cfgMethod (e : Err) (s : State) : (raiseError e s).cfgMethod = s.cfgMethod := rfl
@[simp] theorem raiseError_cfgCodec (e : Err) (s : State) : (raiseError e s).cfgCodec = s.cfgCodec := rfl
@[simp] theorem raiseError_cfgIotaMax (e : Err) (s : State) : (raiseError e s).cfgIotaMax = s.cfgIotaMax := rfl
@[simp] theorem raiseError_cfgHaven (e : Err) (s : State) : (raiseError e s).cfgHaven = s.cfgHaven := rfl
@[simp] theorem raiseError_cfgCache (e : Err) (s : State) : (raiseError e s).cfgCache = s.cfgCache := rfl
@[simp] theorem raiseError_bin (e : Err) (s : State) : (raiseError e s).bin = s.bin := rfl
@[simp] theorem raiseError_bout (e : Err) (s : State) : (raiseError e s).bout = s.bout := rfl
@[simp] theorem raiseError_sin (e : Err) (s : State) : (raiseError e s).sin = s.sin := rfl
@[simp] theorem raiseError_sout (e : Err) (s : State) : (raiseError e s).sout = s.sout := rfl
@[simp] theorem raiseError_spl (e : Err) (s : State) : (raiseError e s).spl = s.spl := rfl
@[simp] theorem raiseError_cat (e : Err) (s : State) : (raiseError e s).cat = s.cat := rfl
@[simp] theorem raiseError_cer (e : Err) (s : State) : (raiseError e s).cer = s.cer := rfl
@[simp] theorem raiseError_host (e : Err) (s : State) : (raiseError e s).host = s.host := rfl
@[simp] theorem raiseError_rdata (e : Err) (s : State) : (raiseError e s).rdata = s.rdata := rfl
@[simp] theorem raiseError_free (e : Err) (s : State) : (raiseError e s).free = s.free + infoFree e.info := rfl

/-! `startCommand`. -/

@[simp] theorem startCommand_seq (v : Word) (s : State) : (startCommand v s).seq = .busy := rfl
@[simp] theorem startCommand_cur (v : Word) (s : State) : (startCommand v s).cur = v := rfl
@[simp] theorem startCommand_arg0 (v : Word) (s : State) : (startCommand v s).arg0 = s.arg0 := rfl
@[simp] theorem startCommand_arg1 (v : Word) (s : State) : (startCommand v s).arg1 = s.arg1 := rfl
@[simp] theorem startCommand_arg2 (v : Word) (s : State) : (startCommand v s).arg2 = s.arg2 := rfl
@[simp] theorem startCommand_arg3 (v : Word) (s : State) : (startCommand v s).arg3 = s.arg3 := rfl
@[simp] theorem startCommand_res0 (v : Word) (s : State) : (startCommand v s).res0 = s.res0 := rfl
@[simp] theorem startCommand_res1 (v : Word) (s : State) : (startCommand v s).res1 = s.res1 := rfl
@[simp] theorem startCommand_status (v : Word) (s : State) : (startCommand v s).status = statusStart s.status := rfl
@[simp] theorem startCommand_errCmd (v : Word) (s : State) : (startCommand v s).errCmd = s.errCmd := rfl
@[simp] theorem startCommand_errInfo (v : Word) (s : State) : (startCommand v s).errInfo = s.errInfo := rfl
@[simp] theorem startCommand_errSub (v : Word) (s : State) : (startCommand v s).errSub = s.errSub := rfl
@[simp] theorem startCommand_cfgN (v : Word) (s : State) : (startCommand v s).cfgN = s.cfgN := rfl
@[simp] theorem startCommand_cfgV (v : Word) (s : State) : (startCommand v s).cfgV = s.cfgV := rfl
@[simp] theorem startCommand_cfgMethod (v : Word) (s : State) : (startCommand v s).cfgMethod = s.cfgMethod := rfl
@[simp] theorem startCommand_cfgCodec (v : Word) (s : State) : (startCommand v s).cfgCodec = s.cfgCodec := rfl
@[simp] theorem startCommand_cfgIotaMax (v : Word) (s : State) : (startCommand v s).cfgIotaMax = s.cfgIotaMax := rfl
@[simp] theorem startCommand_cfgHaven (v : Word) (s : State) : (startCommand v s).cfgHaven = s.cfgHaven := rfl
@[simp] theorem startCommand_cfgCache (v : Word) (s : State) : (startCommand v s).cfgCache = s.cfgCache := rfl
@[simp] theorem startCommand_bin (v : Word) (s : State) : (startCommand v s).bin = s.bin := rfl
@[simp] theorem startCommand_bout (v : Word) (s : State) : (startCommand v s).bout = s.bout := rfl
@[simp] theorem startCommand_sin (v : Word) (s : State) : (startCommand v s).sin = s.sin := rfl
@[simp] theorem startCommand_sout (v : Word) (s : State) : (startCommand v s).sout = s.sout := rfl
@[simp] theorem startCommand_spl (v : Word) (s : State) : (startCommand v s).spl = s.spl := rfl
@[simp] theorem startCommand_cat (v : Word) (s : State) : (startCommand v s).cat = s.cat := rfl
@[simp] theorem startCommand_cer (v : Word) (s : State) : (startCommand v s).cer = s.cer := rfl
@[simp] theorem startCommand_host (v : Word) (s : State) : (startCommand v s).host = s.host := rfl
@[simp] theorem startCommand_rdata (v : Word) (s : State) : (startCommand v s).rdata = s.rdata := rfl
@[simp] theorem startCommand_free (v : Word) (s : State) : (startCommand v s).free = s.free := rfl

/-! `returned`. -/

@[simp] theorem returned_seq (v : Word) (s : State) : (returned v s).seq = s.seq := rfl
@[simp] theorem returned_cur (v : Word) (s : State) : (returned v s).cur = s.cur := rfl
@[simp] theorem returned_arg0 (v : Word) (s : State) : (returned v s).arg0 = s.arg0 := rfl
@[simp] theorem returned_arg1 (v : Word) (s : State) : (returned v s).arg1 = s.arg1 := rfl
@[simp] theorem returned_arg2 (v : Word) (s : State) : (returned v s).arg2 = s.arg2 := rfl
@[simp] theorem returned_arg3 (v : Word) (s : State) : (returned v s).arg3 = s.arg3 := rfl
@[simp] theorem returned_res0 (v : Word) (s : State) : (returned v s).res0 = s.res0 := rfl
@[simp] theorem returned_res1 (v : Word) (s : State) : (returned v s).res1 = s.res1 := rfl
@[simp] theorem returned_status (v : Word) (s : State) : (returned v s).status = s.status := rfl
@[simp] theorem returned_errCmd (v : Word) (s : State) : (returned v s).errCmd = s.errCmd := rfl
@[simp] theorem returned_errInfo (v : Word) (s : State) : (returned v s).errInfo = s.errInfo := rfl
@[simp] theorem returned_errSub (v : Word) (s : State) : (returned v s).errSub = s.errSub := rfl
@[simp] theorem returned_cfgN (v : Word) (s : State) : (returned v s).cfgN = s.cfgN := rfl
@[simp] theorem returned_cfgV (v : Word) (s : State) : (returned v s).cfgV = s.cfgV := rfl
@[simp] theorem returned_cfgMethod (v : Word) (s : State) : (returned v s).cfgMethod = s.cfgMethod := rfl
@[simp] theorem returned_cfgCodec (v : Word) (s : State) : (returned v s).cfgCodec = s.cfgCodec := rfl
@[simp] theorem returned_cfgIotaMax (v : Word) (s : State) : (returned v s).cfgIotaMax = s.cfgIotaMax := rfl
@[simp] theorem returned_cfgHaven (v : Word) (s : State) : (returned v s).cfgHaven = s.cfgHaven := rfl
@[simp] theorem returned_cfgCache (v : Word) (s : State) : (returned v s).cfgCache = s.cfgCache := rfl
@[simp] theorem returned_bin (v : Word) (s : State) : (returned v s).bin = s.bin := rfl
@[simp] theorem returned_bout (v : Word) (s : State) : (returned v s).bout = s.bout := rfl
@[simp] theorem returned_sin (v : Word) (s : State) : (returned v s).sin = s.sin := rfl
@[simp] theorem returned_sout (v : Word) (s : State) : (returned v s).sout = s.sout := rfl
@[simp] theorem returned_spl (v : Word) (s : State) : (returned v s).spl = s.spl := rfl
@[simp] theorem returned_cat (v : Word) (s : State) : (returned v s).cat = s.cat := rfl
@[simp] theorem returned_cer (v : Word) (s : State) : (returned v s).cer = s.cer := rfl
@[simp] theorem returned_host (v : Word) (s : State) : (returned v s).host = s.host := rfl
@[simp] theorem returned_rdata (v : Word) (s : State) : (returned v s).rdata = v := rfl
@[simp] theorem returned_free (v : Word) (s : State) : (returned v s).free = s.free := rfl

/-! `returnedFree`. -/

@[simp] theorem returnedFree_seq (p : Nat → Word) (s : State) : (returnedFree p s).seq = s.seq := rfl
@[simp] theorem returnedFree_cur (p : Nat → Word) (s : State) : (returnedFree p s).cur = s.cur := rfl
@[simp] theorem returnedFree_arg0 (p : Nat → Word) (s : State) : (returnedFree p s).arg0 = s.arg0 := rfl
@[simp] theorem returnedFree_arg1 (p : Nat → Word) (s : State) : (returnedFree p s).arg1 = s.arg1 := rfl
@[simp] theorem returnedFree_arg2 (p : Nat → Word) (s : State) : (returnedFree p s).arg2 = s.arg2 := rfl
@[simp] theorem returnedFree_arg3 (p : Nat → Word) (s : State) : (returnedFree p s).arg3 = s.arg3 := rfl
@[simp] theorem returnedFree_res0 (p : Nat → Word) (s : State) : (returnedFree p s).res0 = s.res0 := rfl
@[simp] theorem returnedFree_res1 (p : Nat → Word) (s : State) : (returnedFree p s).res1 = s.res1 := rfl
@[simp] theorem returnedFree_status (p : Nat → Word) (s : State) : (returnedFree p s).status = s.status := rfl
@[simp] theorem returnedFree_errCmd (p : Nat → Word) (s : State) : (returnedFree p s).errCmd = s.errCmd := rfl
@[simp] theorem returnedFree_errInfo (p : Nat → Word) (s : State) : (returnedFree p s).errInfo = s.errInfo := rfl
@[simp] theorem returnedFree_errSub (p : Nat → Word) (s : State) : (returnedFree p s).errSub = s.errSub := rfl
@[simp] theorem returnedFree_cfgN (p : Nat → Word) (s : State) : (returnedFree p s).cfgN = s.cfgN := rfl
@[simp] theorem returnedFree_cfgV (p : Nat → Word) (s : State) : (returnedFree p s).cfgV = s.cfgV := rfl
@[simp] theorem returnedFree_cfgMethod (p : Nat → Word) (s : State) : (returnedFree p s).cfgMethod = s.cfgMethod := rfl
@[simp] theorem returnedFree_cfgCodec (p : Nat → Word) (s : State) : (returnedFree p s).cfgCodec = s.cfgCodec := rfl
@[simp] theorem returnedFree_cfgIotaMax (p : Nat → Word) (s : State) : (returnedFree p s).cfgIotaMax = s.cfgIotaMax := rfl
@[simp] theorem returnedFree_cfgHaven (p : Nat → Word) (s : State) : (returnedFree p s).cfgHaven = s.cfgHaven := rfl
@[simp] theorem returnedFree_cfgCache (p : Nat → Word) (s : State) : (returnedFree p s).cfgCache = s.cfgCache := rfl
@[simp] theorem returnedFree_bin (p : Nat → Word) (s : State) : (returnedFree p s).bin = s.bin := rfl
@[simp] theorem returnedFree_bout (p : Nat → Word) (s : State) : (returnedFree p s).bout = s.bout := rfl
@[simp] theorem returnedFree_sin (p : Nat → Word) (s : State) : (returnedFree p s).sin = s.sin := rfl
@[simp] theorem returnedFree_sout (p : Nat → Word) (s : State) : (returnedFree p s).sout = s.sout := rfl
@[simp] theorem returnedFree_spl (p : Nat → Word) (s : State) : (returnedFree p s).spl = s.spl := rfl
@[simp] theorem returnedFree_cat (p : Nat → Word) (s : State) : (returnedFree p s).cat = s.cat := rfl
@[simp] theorem returnedFree_cer (p : Nat → Word) (s : State) : (returnedFree p s).cer = s.cer := rfl
@[simp] theorem returnedFree_host (p : Nat → Word) (s : State) : (returnedFree p s).host = s.host := rfl
@[simp] theorem returnedFree_rdata (p : Nat → Word) (s : State) : (returnedFree p s).rdata = p s.free := rfl
@[simp] theorem returnedFree_free (p : Nat → Word) (s : State) : (returnedFree p s).free = s.free + 1 := rfl

/-! `overrun`. -/

@[simp] theorem overrun_seq (s : State) : (overrun s).seq = s.seq := rfl
@[simp] theorem overrun_cur (s : State) : (overrun s).cur = s.cur := rfl
@[simp] theorem overrun_arg0 (s : State) : (overrun s).arg0 = s.arg0 := rfl
@[simp] theorem overrun_arg1 (s : State) : (overrun s).arg1 = s.arg1 := rfl
@[simp] theorem overrun_arg2 (s : State) : (overrun s).arg2 = s.arg2 := rfl
@[simp] theorem overrun_arg3 (s : State) : (overrun s).arg3 = s.arg3 := rfl
@[simp] theorem overrun_res0 (s : State) : (overrun s).res0 = s.res0 := rfl
@[simp] theorem overrun_res1 (s : State) : (overrun s).res1 = s.res1 := rfl
@[simp] theorem overrun_status (s : State) : (overrun s).status = statusOvr s.status := rfl
@[simp] theorem overrun_errCmd (s : State) : (overrun s).errCmd = s.errCmd := rfl
@[simp] theorem overrun_errInfo (s : State) : (overrun s).errInfo = s.errInfo := rfl
@[simp] theorem overrun_errSub (s : State) : (overrun s).errSub = s.errSub := rfl
@[simp] theorem overrun_cfgN (s : State) : (overrun s).cfgN = s.cfgN := rfl
@[simp] theorem overrun_cfgV (s : State) : (overrun s).cfgV = s.cfgV := rfl
@[simp] theorem overrun_cfgMethod (s : State) : (overrun s).cfgMethod = s.cfgMethod := rfl
@[simp] theorem overrun_cfgCodec (s : State) : (overrun s).cfgCodec = s.cfgCodec := rfl
@[simp] theorem overrun_cfgIotaMax (s : State) : (overrun s).cfgIotaMax = s.cfgIotaMax := rfl
@[simp] theorem overrun_cfgHaven (s : State) : (overrun s).cfgHaven = s.cfgHaven := rfl
@[simp] theorem overrun_cfgCache (s : State) : (overrun s).cfgCache = s.cfgCache := rfl
@[simp] theorem overrun_bin (s : State) : (overrun s).bin = s.bin := rfl
@[simp] theorem overrun_bout (s : State) : (overrun s).bout = s.bout := rfl
@[simp] theorem overrun_sin (s : State) : (overrun s).sin = s.sin := rfl
@[simp] theorem overrun_sout (s : State) : (overrun s).sout = s.sout := rfl
@[simp] theorem overrun_spl (s : State) : (overrun s).spl = s.spl := rfl
@[simp] theorem overrun_cat (s : State) : (overrun s).cat = s.cat := rfl
@[simp] theorem overrun_cer (s : State) : (overrun s).cer = s.cer := rfl
@[simp] theorem overrun_host (s : State) : (overrun s).host = s.host := rfl
@[simp] theorem overrun_rdata (s : State) : (overrun s).rdata = s.rdata := rfl
@[simp] theorem overrun_free (s : State) : (overrun s).free = s.free := rfl

/-! `pushFrontier`. -/

@[simp] theorem pushFrontier_seq (s : State) (x : Nat) (y : Int) : (pushFrontier s x y).seq = s.seq := rfl
@[simp] theorem pushFrontier_cur (s : State) (x : Nat) (y : Int) : (pushFrontier s x y).cur = s.cur := rfl
@[simp] theorem pushFrontier_arg0 (s : State) (x : Nat) (y : Int) : (pushFrontier s x y).arg0 = s.arg0 := rfl
@[simp] theorem pushFrontier_arg1 (s : State) (x : Nat) (y : Int) : (pushFrontier s x y).arg1 = s.arg1 := rfl
@[simp] theorem pushFrontier_arg2 (s : State) (x : Nat) (y : Int) : (pushFrontier s x y).arg2 = s.arg2 := rfl
@[simp] theorem pushFrontier_arg3 (s : State) (x : Nat) (y : Int) : (pushFrontier s x y).arg3 = s.arg3 := rfl
@[simp] theorem pushFrontier_res0 (s : State) (x : Nat) (y : Int) : (pushFrontier s x y).res0 = s.res0 := rfl
@[simp] theorem pushFrontier_res1 (s : State) (x : Nat) (y : Int) : (pushFrontier s x y).res1 = s.res1 := rfl
@[simp] theorem pushFrontier_status (s : State) (x : Nat) (y : Int) : (pushFrontier s x y).status = s.status := rfl
@[simp] theorem pushFrontier_errCmd (s : State) (x : Nat) (y : Int) : (pushFrontier s x y).errCmd = s.errCmd := rfl
@[simp] theorem pushFrontier_errInfo (s : State) (x : Nat) (y : Int) : (pushFrontier s x y).errInfo = s.errInfo := rfl
@[simp] theorem pushFrontier_errSub (s : State) (x : Nat) (y : Int) : (pushFrontier s x y).errSub = s.errSub := rfl
@[simp] theorem pushFrontier_cfgN (s : State) (x : Nat) (y : Int) : (pushFrontier s x y).cfgN = s.cfgN := rfl
@[simp] theorem pushFrontier_cfgV (s : State) (x : Nat) (y : Int) : (pushFrontier s x y).cfgV = s.cfgV := rfl
@[simp] theorem pushFrontier_cfgMethod (s : State) (x : Nat) (y : Int) : (pushFrontier s x y).cfgMethod = s.cfgMethod := rfl
@[simp] theorem pushFrontier_cfgCodec (s : State) (x : Nat) (y : Int) : (pushFrontier s x y).cfgCodec = s.cfgCodec := rfl
@[simp] theorem pushFrontier_cfgIotaMax (s : State) (x : Nat) (y : Int) : (pushFrontier s x y).cfgIotaMax = s.cfgIotaMax := rfl
@[simp] theorem pushFrontier_cfgHaven (s : State) (x : Nat) (y : Int) : (pushFrontier s x y).cfgHaven = s.cfgHaven := rfl
@[simp] theorem pushFrontier_cfgCache (s : State) (x : Nat) (y : Int) : (pushFrontier s x y).cfgCache = s.cfgCache := rfl
@[simp] theorem pushFrontier_bin (s : State) (x : Nat) (y : Int) : (pushFrontier s x y).bin = s.bin := rfl
@[simp] theorem pushFrontier_bout (s : State) (x : Nat) (y : Int) : (pushFrontier s x y).bout = s.bout := rfl
@[simp] theorem pushFrontier_sin (s : State) (x : Nat) (y : Int) : (pushFrontier s x y).sin = s.sin := rfl
@[simp] theorem pushFrontier_sout (s : State) (x : Nat) (y : Int) : (pushFrontier s x y).sout = s.sout := rfl
@[simp] theorem pushFrontier_spl (s : State) (x : Nat) (y : Int) : (pushFrontier s x y).spl = (predict s.spl x).2 := rfl
@[simp] theorem pushFrontier_cat (s : State) (x : Nat) (y : Int) : (pushFrontier s x y).cat = s.cat := rfl
@[simp] theorem pushFrontier_cer (s : State) (x : Nat) (y : Int) : (pushFrontier s x y).cer = { s.cer with
      rank := rankInsert { score := scoreOf s.cer.v (predict s.spl x).1 y, x := x, y := y } s.cer.rank } := rfl
@[simp] theorem pushFrontier_host (s : State) (x : Nat) (y : Int) : (pushFrontier s x y).host = s.host := rfl
@[simp] theorem pushFrontier_rdata (s : State) (x : Nat) (y : Int) : (pushFrontier s x y).rdata = s.rdata := rfl
@[simp] theorem pushFrontier_free (s : State) (x : Nat) (y : Int) : (pushFrontier s x y).free = s.free := rfl

/-! `tookPress`. -/

@[simp] theorem tookPress_seq (p : Nat) (s : State) : (tookPress p s).seq = s.seq := rfl
@[simp] theorem tookPress_cur (p : Nat) (s : State) : (tookPress p s).cur = s.cur := rfl
@[simp] theorem tookPress_arg0 (p : Nat) (s : State) : (tookPress p s).arg0 = s.arg0 := rfl
@[simp] theorem tookPress_arg1 (p : Nat) (s : State) : (tookPress p s).arg1 = s.arg1 := rfl
@[simp] theorem tookPress_arg2 (p : Nat) (s : State) : (tookPress p s).arg2 = s.arg2 := rfl
@[simp] theorem tookPress_arg3 (p : Nat) (s : State) : (tookPress p s).arg3 = s.arg3 := rfl
@[simp] theorem tookPress_res0 (p : Nat) (s : State) : (tookPress p s).res0 = s.res0 := rfl
@[simp] theorem tookPress_res1 (p : Nat) (s : State) : (tookPress p s).res1 = s.res1 := rfl
@[simp] theorem tookPress_status (p : Nat) (s : State) : (tookPress p s).status = s.status := rfl
@[simp] theorem tookPress_errCmd (p : Nat) (s : State) : (tookPress p s).errCmd = s.errCmd := rfl
@[simp] theorem tookPress_errInfo (p : Nat) (s : State) : (tookPress p s).errInfo = s.errInfo := rfl
@[simp] theorem tookPress_errSub (p : Nat) (s : State) : (tookPress p s).errSub = s.errSub := rfl
@[simp] theorem tookPress_cfgN (p : Nat) (s : State) : (tookPress p s).cfgN = s.cfgN := rfl
@[simp] theorem tookPress_cfgV (p : Nat) (s : State) : (tookPress p s).cfgV = s.cfgV := rfl
@[simp] theorem tookPress_cfgMethod (p : Nat) (s : State) : (tookPress p s).cfgMethod = s.cfgMethod := rfl
@[simp] theorem tookPress_cfgCodec (p : Nat) (s : State) : (tookPress p s).cfgCodec = s.cfgCodec := rfl
@[simp] theorem tookPress_cfgIotaMax (p : Nat) (s : State) : (tookPress p s).cfgIotaMax = s.cfgIotaMax := rfl
@[simp] theorem tookPress_cfgHaven (p : Nat) (s : State) : (tookPress p s).cfgHaven = s.cfgHaven := rfl
@[simp] theorem tookPress_cfgCache (p : Nat) (s : State) : (tookPress p s).cfgCache = s.cfgCache := rfl
@[simp] theorem tookPress_bin (p : Nat) (s : State) : (tookPress p s).bin = s.bin := rfl
@[simp] theorem tookPress_bout (p : Nat) (s : State) : (tookPress p s).bout = s.bout := rfl
@[simp] theorem tookPress_sin (p : Nat) (s : State) : (tookPress p s).sin = s.sin := rfl
@[simp] theorem tookPress_sout (p : Nat) (s : State) : (tookPress p s).sout = s.sout := rfl
@[simp] theorem tookPress_spl (p : Nat) (s : State) : (tookPress p s).spl = s.spl := rfl
@[simp] theorem tookPress_cat (p : Nat) (s : State) : (tookPress p s).cat = s.cat := rfl
@[simp] theorem tookPress_cer (p : Nat) (s : State) : (tookPress p s).cer = { s.cer with press := s.cer.press ++ [p] } := rfl
@[simp] theorem tookPress_host (p : Nat) (s : State) : (tookPress p s).host = s.host := rfl
@[simp] theorem tookPress_rdata (p : Nat) (s : State) : (tookPress p s).rdata = s.rdata := rfl
@[simp] theorem tookPress_free (p : Nat) (s : State) : (tookPress p s).free = s.free := rfl

/-! `dropCell`. -/

@[simp] theorem dropCell_seq (x : Nat) (y : Int) (s : State) : (dropCell x y s).seq = s.seq := rfl
@[simp] theorem dropCell_cur (x : Nat) (y : Int) (s : State) : (dropCell x y s).cur = s.cur := rfl
@[simp] theorem dropCell_arg0 (x : Nat) (y : Int) (s : State) : (dropCell x y s).arg0 = s.arg0 := rfl
@[simp] theorem dropCell_arg1 (x : Nat) (y : Int) (s : State) : (dropCell x y s).arg1 = s.arg1 := rfl
@[simp] theorem dropCell_arg2 (x : Nat) (y : Int) (s : State) : (dropCell x y s).arg2 = s.arg2 := rfl
@[simp] theorem dropCell_arg3 (x : Nat) (y : Int) (s : State) : (dropCell x y s).arg3 = s.arg3 := rfl
@[simp] theorem dropCell_res0 (x : Nat) (y : Int) (s : State) : (dropCell x y s).res0 = s.res0 := rfl
@[simp] theorem dropCell_res1 (x : Nat) (y : Int) (s : State) : (dropCell x y s).res1 = s.res1 := rfl
@[simp] theorem dropCell_status (x : Nat) (y : Int) (s : State) : (dropCell x y s).status = s.status := rfl
@[simp] theorem dropCell_errCmd (x : Nat) (y : Int) (s : State) : (dropCell x y s).errCmd = s.errCmd := rfl
@[simp] theorem dropCell_errInfo (x : Nat) (y : Int) (s : State) : (dropCell x y s).errInfo = s.errInfo := rfl
@[simp] theorem dropCell_errSub (x : Nat) (y : Int) (s : State) : (dropCell x y s).errSub = s.errSub := rfl
@[simp] theorem dropCell_cfgN (x : Nat) (y : Int) (s : State) : (dropCell x y s).cfgN = s.cfgN := rfl
@[simp] theorem dropCell_cfgV (x : Nat) (y : Int) (s : State) : (dropCell x y s).cfgV = s.cfgV := rfl
@[simp] theorem dropCell_cfgMethod (x : Nat) (y : Int) (s : State) : (dropCell x y s).cfgMethod = s.cfgMethod := rfl
@[simp] theorem dropCell_cfgCodec (x : Nat) (y : Int) (s : State) : (dropCell x y s).cfgCodec = s.cfgCodec := rfl
@[simp] theorem dropCell_cfgIotaMax (x : Nat) (y : Int) (s : State) : (dropCell x y s).cfgIotaMax = s.cfgIotaMax := rfl
@[simp] theorem dropCell_cfgHaven (x : Nat) (y : Int) (s : State) : (dropCell x y s).cfgHaven = s.cfgHaven := rfl
@[simp] theorem dropCell_cfgCache (x : Nat) (y : Int) (s : State) : (dropCell x y s).cfgCache = s.cfgCache := rfl
@[simp] theorem dropCell_bin (x : Nat) (y : Int) (s : State) : (dropCell x y s).bin = s.bin := rfl
@[simp] theorem dropCell_bout (x : Nat) (y : Int) (s : State) : (dropCell x y s).bout = s.bout := rfl
@[simp] theorem dropCell_sin (x : Nat) (y : Int) (s : State) : (dropCell x y s).sin = s.sin := rfl
@[simp] theorem dropCell_sout (x : Nat) (y : Int) (s : State) : (dropCell x y s).sout = s.sout := rfl
@[simp] theorem dropCell_spl (x : Nat) (y : Int) (s : State) : (dropCell x y s).spl = s.spl := rfl
@[simp] theorem dropCell_cat (x : Nat) (y : Int) (s : State) : (dropCell x y s).cat = s.cat := rfl
@[simp] theorem dropCell_cer (x : Nat) (y : Int) (s : State) : (dropCell x y s).cer = { s.cer with rank := rankRemove x y s.cer.rank } := rfl
@[simp] theorem dropCell_host (x : Nat) (y : Int) (s : State) : (dropCell x y s).host = s.host := rfl
@[simp] theorem dropCell_rdata (x : Nat) (y : Int) (s : State) : (dropCell x y s).rdata = s.rdata := rfl
@[simp] theorem dropCell_free (x : Nat) (y : Int) (s : State) : (dropCell x y s).free = s.free := rfl

/-! `popped`. -/

@[simp] theorem popped_seq (r : List RankEntry) (s : State) : (popped r s).seq = s.seq := rfl
@[simp] theorem popped_cur (r : List RankEntry) (s : State) : (popped r s).cur = s.cur := rfl
@[simp] theorem popped_arg0 (r : List RankEntry) (s : State) : (popped r s).arg0 = s.arg0 := rfl
@[simp] theorem popped_arg1 (r : List RankEntry) (s : State) : (popped r s).arg1 = s.arg1 := rfl
@[simp] theorem popped_arg2 (r : List RankEntry) (s : State) : (popped r s).arg2 = s.arg2 := rfl
@[simp] theorem popped_arg3 (r : List RankEntry) (s : State) : (popped r s).arg3 = s.arg3 := rfl
@[simp] theorem popped_res0 (r : List RankEntry) (s : State) : (popped r s).res0 = s.res0 := rfl
@[simp] theorem popped_res1 (r : List RankEntry) (s : State) : (popped r s).res1 = s.res1 := rfl
@[simp] theorem popped_status (r : List RankEntry) (s : State) : (popped r s).status = s.status := rfl
@[simp] theorem popped_errCmd (r : List RankEntry) (s : State) : (popped r s).errCmd = s.errCmd := rfl
@[simp] theorem popped_errInfo (r : List RankEntry) (s : State) : (popped r s).errInfo = s.errInfo := rfl
@[simp] theorem popped_errSub (r : List RankEntry) (s : State) : (popped r s).errSub = s.errSub := rfl
@[simp] theorem popped_cfgN (r : List RankEntry) (s : State) : (popped r s).cfgN = s.cfgN := rfl
@[simp] theorem popped_cfgV (r : List RankEntry) (s : State) : (popped r s).cfgV = s.cfgV := rfl
@[simp] theorem popped_cfgMethod (r : List RankEntry) (s : State) : (popped r s).cfgMethod = s.cfgMethod := rfl
@[simp] theorem popped_cfgCodec (r : List RankEntry) (s : State) : (popped r s).cfgCodec = s.cfgCodec := rfl
@[simp] theorem popped_cfgIotaMax (r : List RankEntry) (s : State) : (popped r s).cfgIotaMax = s.cfgIotaMax := rfl
@[simp] theorem popped_cfgHaven (r : List RankEntry) (s : State) : (popped r s).cfgHaven = s.cfgHaven := rfl
@[simp] theorem popped_cfgCache (r : List RankEntry) (s : State) : (popped r s).cfgCache = s.cfgCache := rfl
@[simp] theorem popped_bin (r : List RankEntry) (s : State) : (popped r s).bin = s.bin := rfl
@[simp] theorem popped_bout (r : List RankEntry) (s : State) : (popped r s).bout = s.bout := rfl
@[simp] theorem popped_sin (r : List RankEntry) (s : State) : (popped r s).sin = s.sin := rfl
@[simp] theorem popped_sout (r : List RankEntry) (s : State) : (popped r s).sout = s.sout := rfl
@[simp] theorem popped_spl (r : List RankEntry) (s : State) : (popped r s).spl = s.spl := rfl
@[simp] theorem popped_cat (r : List RankEntry) (s : State) : (popped r s).cat = s.cat := rfl
@[simp] theorem popped_cer (r : List RankEntry) (s : State) : (popped r s).cer = { s.cer with rank := r } := rfl
@[simp] theorem popped_host (r : List RankEntry) (s : State) : (popped r s).host = s.host := rfl
@[simp] theorem popped_rdata (r : List RankEntry) (s : State) : (popped r s).rdata = s.rdata := rfl
@[simp] theorem popped_free (r : List RankEntry) (s : State) : (popped r s).free = s.free := rfl

/-! `countElim`. -/

@[simp] theorem countElim_seq (c : Catalogue) (s : State) : (countElim c s).seq = s.seq := rfl
@[simp] theorem countElim_cur (c : Catalogue) (s : State) : (countElim c s).cur = s.cur := rfl
@[simp] theorem countElim_arg0 (c : Catalogue) (s : State) : (countElim c s).arg0 = s.arg0 := rfl
@[simp] theorem countElim_arg1 (c : Catalogue) (s : State) : (countElim c s).arg1 = s.arg1 := rfl
@[simp] theorem countElim_arg2 (c : Catalogue) (s : State) : (countElim c s).arg2 = s.arg2 := rfl
@[simp] theorem countElim_arg3 (c : Catalogue) (s : State) : (countElim c s).arg3 = s.arg3 := rfl
@[simp] theorem countElim_res0 (c : Catalogue) (s : State) : (countElim c s).res0 = s.res0 := rfl
@[simp] theorem countElim_res1 (c : Catalogue) (s : State) : (countElim c s).res1 = s.res1 := rfl
@[simp] theorem countElim_status (c : Catalogue) (s : State) : (countElim c s).status = s.status := rfl
@[simp] theorem countElim_errCmd (c : Catalogue) (s : State) : (countElim c s).errCmd = s.errCmd := rfl
@[simp] theorem countElim_errInfo (c : Catalogue) (s : State) : (countElim c s).errInfo = s.errInfo := rfl
@[simp] theorem countElim_errSub (c : Catalogue) (s : State) : (countElim c s).errSub = s.errSub := rfl
@[simp] theorem countElim_cfgN (c : Catalogue) (s : State) : (countElim c s).cfgN = s.cfgN := rfl
@[simp] theorem countElim_cfgV (c : Catalogue) (s : State) : (countElim c s).cfgV = s.cfgV := rfl
@[simp] theorem countElim_cfgMethod (c : Catalogue) (s : State) : (countElim c s).cfgMethod = s.cfgMethod := rfl
@[simp] theorem countElim_cfgCodec (c : Catalogue) (s : State) : (countElim c s).cfgCodec = s.cfgCodec := rfl
@[simp] theorem countElim_cfgIotaMax (c : Catalogue) (s : State) : (countElim c s).cfgIotaMax = s.cfgIotaMax := rfl
@[simp] theorem countElim_cfgHaven (c : Catalogue) (s : State) : (countElim c s).cfgHaven = s.cfgHaven := rfl
@[simp] theorem countElim_cfgCache (c : Catalogue) (s : State) : (countElim c s).cfgCache = s.cfgCache := rfl
@[simp] theorem countElim_bin (c : Catalogue) (s : State) : (countElim c s).bin = s.bin := rfl
@[simp] theorem countElim_bout (c : Catalogue) (s : State) : (countElim c s).bout = s.bout := rfl
@[simp] theorem countElim_sin (c : Catalogue) (s : State) : (countElim c s).sin = s.sin := rfl
@[simp] theorem countElim_sout (c : Catalogue) (s : State) : (countElim c s).sout = s.sout := rfl
@[simp] theorem countElim_spl (c : Catalogue) (s : State) : (countElim c s).spl = s.spl := rfl
@[simp] theorem countElim_cat (c : Catalogue) (s : State) : (countElim c s).cat = c := rfl
@[simp] theorem countElim_cer (c : Catalogue) (s : State) : (countElim c s).cer = { s.cer with s := s.cer.s + 1, elims := s.cer.elims + 1 } := rfl
@[simp] theorem countElim_host (c : Catalogue) (s : State) : (countElim c s).host = s.host := rfl
@[simp] theorem countElim_rdata (c : Catalogue) (s : State) : (countElim c s).rdata = s.rdata := rfl
@[simp] theorem countElim_free (c : Catalogue) (s : State) : (countElim c s).free = s.free := rfl

/-! `countRun`. -/

@[simp] theorem countRun_seq (s : State) : (countRun s).seq = s.seq := rfl
@[simp] theorem countRun_cur (s : State) : (countRun s).cur = s.cur := rfl
@[simp] theorem countRun_arg0 (s : State) : (countRun s).arg0 = s.arg0 := rfl
@[simp] theorem countRun_arg1 (s : State) : (countRun s).arg1 = s.arg1 := rfl
@[simp] theorem countRun_arg2 (s : State) : (countRun s).arg2 = s.arg2 := rfl
@[simp] theorem countRun_arg3 (s : State) : (countRun s).arg3 = s.arg3 := rfl
@[simp] theorem countRun_res0 (s : State) : (countRun s).res0 = s.res0 := rfl
@[simp] theorem countRun_res1 (s : State) : (countRun s).res1 = s.res1 := rfl
@[simp] theorem countRun_status (s : State) : (countRun s).status = s.status := rfl
@[simp] theorem countRun_errCmd (s : State) : (countRun s).errCmd = s.errCmd := rfl
@[simp] theorem countRun_errInfo (s : State) : (countRun s).errInfo = s.errInfo := rfl
@[simp] theorem countRun_errSub (s : State) : (countRun s).errSub = s.errSub := rfl
@[simp] theorem countRun_cfgN (s : State) : (countRun s).cfgN = s.cfgN := rfl
@[simp] theorem countRun_cfgV (s : State) : (countRun s).cfgV = s.cfgV := rfl
@[simp] theorem countRun_cfgMethod (s : State) : (countRun s).cfgMethod = s.cfgMethod := rfl
@[simp] theorem countRun_cfgCodec (s : State) : (countRun s).cfgCodec = s.cfgCodec := rfl
@[simp] theorem countRun_cfgIotaMax (s : State) : (countRun s).cfgIotaMax = s.cfgIotaMax := rfl
@[simp] theorem countRun_cfgHaven (s : State) : (countRun s).cfgHaven = s.cfgHaven := rfl
@[simp] theorem countRun_cfgCache (s : State) : (countRun s).cfgCache = s.cfgCache := rfl
@[simp] theorem countRun_bin (s : State) : (countRun s).bin = s.bin := rfl
@[simp] theorem countRun_bout (s : State) : (countRun s).bout = s.bout := rfl
@[simp] theorem countRun_sin (s : State) : (countRun s).sin = s.sin := rfl
@[simp] theorem countRun_sout (s : State) : (countRun s).sout = s.sout := rfl
@[simp] theorem countRun_spl (s : State) : (countRun s).spl = s.spl := rfl
@[simp] theorem countRun_cat (s : State) : (countRun s).cat = s.cat := rfl
@[simp] theorem countRun_cer (s : State) : (countRun s).cer = { s.cer with runIndex := s.cer.runIndex + 1 } := rfl
@[simp] theorem countRun_host (s : State) : (countRun s).host = s.host := rfl
@[simp] theorem countRun_rdata (s : State) : (countRun s).rdata = s.rdata := rfl
@[simp] theorem countRun_free (s : State) : (countRun s).free = s.free := rfl

/-! `failedBlock`. -/

@[simp] theorem failedBlock_seq (s t : State) : (failedBlock s t).seq = s.seq := rfl
@[simp] theorem failedBlock_cur (s t : State) : (failedBlock s t).cur = s.cur := rfl
@[simp] theorem failedBlock_arg0 (s t : State) : (failedBlock s t).arg0 = s.arg0 := rfl
@[simp] theorem failedBlock_arg1 (s t : State) : (failedBlock s t).arg1 = s.arg1 := rfl
@[simp] theorem failedBlock_arg2 (s t : State) : (failedBlock s t).arg2 = s.arg2 := rfl
@[simp] theorem failedBlock_arg3 (s t : State) : (failedBlock s t).arg3 = s.arg3 := rfl
@[simp] theorem failedBlock_res0 (s t : State) : (failedBlock s t).res0 = s.res0 := rfl
@[simp] theorem failedBlock_res1 (s t : State) : (failedBlock s t).res1 = s.res1 := rfl
@[simp] theorem failedBlock_status (s t : State) : (failedBlock s t).status = s.status := rfl
@[simp] theorem failedBlock_errCmd (s t : State) : (failedBlock s t).errCmd = s.errCmd := rfl
@[simp] theorem failedBlock_errInfo (s t : State) : (failedBlock s t).errInfo = s.errInfo := rfl
@[simp] theorem failedBlock_errSub (s t : State) : (failedBlock s t).errSub = s.errSub := rfl
@[simp] theorem failedBlock_cfgN (s t : State) : (failedBlock s t).cfgN = s.cfgN := rfl
@[simp] theorem failedBlock_cfgV (s t : State) : (failedBlock s t).cfgV = s.cfgV := rfl
@[simp] theorem failedBlock_cfgMethod (s t : State) : (failedBlock s t).cfgMethod = s.cfgMethod := rfl
@[simp] theorem failedBlock_cfgCodec (s t : State) : (failedBlock s t).cfgCodec = s.cfgCodec := rfl
@[simp] theorem failedBlock_cfgIotaMax (s t : State) : (failedBlock s t).cfgIotaMax = s.cfgIotaMax := rfl
@[simp] theorem failedBlock_cfgHaven (s t : State) : (failedBlock s t).cfgHaven = s.cfgHaven := rfl
@[simp] theorem failedBlock_cfgCache (s t : State) : (failedBlock s t).cfgCache = s.cfgCache := rfl
@[simp] theorem failedBlock_bin (s t : State) : (failedBlock s t).bin = s.bin := rfl
@[simp] theorem failedBlock_bout (s t : State) : (failedBlock s t).bout = s.bout := rfl
@[simp] theorem failedBlock_sin (s t : State) : (failedBlock s t).sin = s.sin := rfl
@[simp] theorem failedBlock_sout (s t : State) : (failedBlock s t).sout = s.sout := rfl
@[simp] theorem failedBlock_spl (s t : State) : (failedBlock s t).spl = t.spl := rfl
@[simp] theorem failedBlock_cat (s t : State) : (failedBlock s t).cat = t.cat := rfl
@[simp] theorem failedBlock_cer (s t : State) : (failedBlock s t).cer = { t.cer with phase := .failed } := rfl
@[simp] theorem failedBlock_host (s t : State) : (failedBlock s t).host = s.host := rfl
@[simp] theorem failedBlock_rdata (s t : State) : (failedBlock s t).rdata = s.rdata := rfl
@[simp] theorem failedBlock_free (s t : State) : (failedBlock s t).free = s.free := rfl

/-! `hardReset`. -/

@[simp] theorem hardReset_seq (s : State) : (hardReset s).seq = State.reset.seq := rfl
@[simp] theorem hardReset_cur (s : State) : (hardReset s).cur = State.reset.cur := rfl
@[simp] theorem hardReset_arg0 (s : State) : (hardReset s).arg0 = State.reset.arg0 := rfl
@[simp] theorem hardReset_arg1 (s : State) : (hardReset s).arg1 = State.reset.arg1 := rfl
@[simp] theorem hardReset_arg2 (s : State) : (hardReset s).arg2 = State.reset.arg2 := rfl
@[simp] theorem hardReset_arg3 (s : State) : (hardReset s).arg3 = State.reset.arg3 := rfl
@[simp] theorem hardReset_res0 (s : State) : (hardReset s).res0 = State.reset.res0 := rfl
@[simp] theorem hardReset_res1 (s : State) : (hardReset s).res1 = State.reset.res1 := rfl
@[simp] theorem hardReset_status (s : State) : (hardReset s).status = State.reset.status := rfl
@[simp] theorem hardReset_errCmd (s : State) : (hardReset s).errCmd = State.reset.errCmd := rfl
@[simp] theorem hardReset_errInfo (s : State) : (hardReset s).errInfo = State.reset.errInfo := rfl
@[simp] theorem hardReset_errSub (s : State) : (hardReset s).errSub = State.reset.errSub := rfl
@[simp] theorem hardReset_cfgN (s : State) : (hardReset s).cfgN = State.reset.cfgN := rfl
@[simp] theorem hardReset_cfgV (s : State) : (hardReset s).cfgV = State.reset.cfgV := rfl
@[simp] theorem hardReset_cfgMethod (s : State) : (hardReset s).cfgMethod = State.reset.cfgMethod := rfl
@[simp] theorem hardReset_cfgCodec (s : State) : (hardReset s).cfgCodec = State.reset.cfgCodec := rfl
@[simp] theorem hardReset_cfgIotaMax (s : State) : (hardReset s).cfgIotaMax = State.reset.cfgIotaMax := rfl
@[simp] theorem hardReset_cfgHaven (s : State) : (hardReset s).cfgHaven = State.reset.cfgHaven := rfl
@[simp] theorem hardReset_cfgCache (s : State) : (hardReset s).cfgCache = State.reset.cfgCache := rfl
@[simp] theorem hardReset_bin (s : State) : (hardReset s).bin = State.reset.bin := rfl
@[simp] theorem hardReset_bout (s : State) : (hardReset s).bout = State.reset.bout := rfl
@[simp] theorem hardReset_sin (s : State) : (hardReset s).sin = State.reset.sin := rfl
@[simp] theorem hardReset_sout (s : State) : (hardReset s).sout = State.reset.sout := rfl
@[simp] theorem hardReset_spl (s : State) : (hardReset s).spl = State.reset.spl := rfl
@[simp] theorem hardReset_cat (s : State) : (hardReset s).cat = State.reset.cat := rfl
@[simp] theorem hardReset_cer (s : State) : (hardReset s).cer = State.reset.cer := rfl
@[simp] theorem hardReset_host (s : State) : (hardReset s).host = s.host := rfl
@[simp] theorem hardReset_rdata (s : State) : (hardReset s).rdata = s.rdata := rfl
@[simp] theorem hardReset_free (s : State) : (hardReset s).free = s.free := rfl

/-! The STATUS computations. -/

@[simp] theorem statusStart_busy (st : Status) : (statusStart st).busy = true := rfl
@[simp] theorem statusStart_done (st : Status) : (statusStart st).done = false := rfl
@[simp] theorem statusStart_nochg (st : Status) : (statusStart st).nochg = false := rfl
@[simp] theorem statusStart_ovr (st : Status) : (statusStart st).ovr = st.ovr := rfl
@[simp] theorem statusStart_serr (st : Status) : (statusStart st).serr = st.serr := rfl
@[simp] theorem statusStart_porterr (st : Status) : (statusStart st).porterr = st.porterr := rfl
@[simp] theorem statusStart_err (st : Status) : (statusStart st).err = none := rfl

@[simp] theorem statusDone_busy (st : Status) : (statusDone st).busy = false := rfl
@[simp] theorem statusDone_done (st : Status) : (statusDone st).done = true := rfl
@[simp] theorem statusDone_nochg (st : Status) : (statusDone st).nochg = st.nochg := rfl
@[simp] theorem statusDone_ovr (st : Status) : (statusDone st).ovr = st.ovr := rfl
@[simp] theorem statusDone_serr (st : Status) : (statusDone st).serr = st.serr := rfl
@[simp] theorem statusDone_porterr (st : Status) : (statusDone st).porterr = st.porterr := rfl
@[simp] theorem statusDone_err (st : Status) : (statusDone st).err = st.err := rfl

@[simp] theorem statusNoChange_busy (st : Status) : (statusNoChange st).busy = false := rfl
@[simp] theorem statusNoChange_done (st : Status) : (statusNoChange st).done = true := rfl
@[simp] theorem statusNoChange_nochg (st : Status) : (statusNoChange st).nochg = true := rfl
@[simp] theorem statusNoChange_ovr (st : Status) : (statusNoChange st).ovr = st.ovr := rfl
@[simp] theorem statusNoChange_serr (st : Status) : (statusNoChange st).serr = st.serr := rfl
@[simp] theorem statusNoChange_porterr (st : Status) : (statusNoChange st).porterr = st.porterr := rfl
@[simp] theorem statusNoChange_err (st : Status) : (statusNoChange st).err = st.err := rfl

@[simp] theorem statusRaise_busy (k : ErrKind) (st : Status) : (statusRaise k st).busy = false := rfl
@[simp] theorem statusRaise_done (k : ErrKind) (st : Status) : (statusRaise k st).done = false := rfl
@[simp] theorem statusRaise_nochg (k : ErrKind) (st : Status) : (statusRaise k st).nochg = false := rfl
@[simp] theorem statusRaise_ovr (k : ErrKind) (st : Status) : (statusRaise k st).ovr = st.ovr := rfl
@[simp] theorem statusRaise_serr (k : ErrKind) (st : Status) : (statusRaise k st).serr = true := rfl
@[simp] theorem statusRaise_porterr (k : ErrKind) (st : Status) : (statusRaise k st).porterr = st.porterr := rfl
@[simp] theorem statusRaise_err (k : ErrKind) (st : Status) : (statusRaise k st).err = some k := rfl

@[simp] theorem statusOvr_busy (st : Status) : (statusOvr st).busy = st.busy := rfl
@[simp] theorem statusOvr_done (st : Status) : (statusOvr st).done = st.done := rfl
@[simp] theorem statusOvr_nochg (st : Status) : (statusOvr st).nochg = st.nochg := rfl
@[simp] theorem statusOvr_ovr (st : Status) : (statusOvr st).ovr = true := rfl
@[simp] theorem statusOvr_serr (st : Status) : (statusOvr st).serr = st.serr := rfl
@[simp] theorem statusOvr_porterr (st : Status) : (statusOvr st).porterr = st.porterr := rfl
@[simp] theorem statusOvr_err (st : Status) : (statusOvr st).err = st.err := rfl

@[simp] theorem statusPortErr_busy (st : Status) : (statusPortErr st).busy = st.busy := rfl
@[simp] theorem statusPortErr_done (st : Status) : (statusPortErr st).done = st.done := rfl
@[simp] theorem statusPortErr_nochg (st : Status) : (statusPortErr st).nochg = st.nochg := rfl
@[simp] theorem statusPortErr_ovr (st : Status) : (statusPortErr st).ovr = st.ovr := rfl
@[simp] theorem statusPortErr_serr (st : Status) : (statusPortErr st).serr = st.serr := rfl
@[simp] theorem statusPortErr_porterr (st : Status) : (statusPortErr st).porterr = true := rfl
@[simp] theorem statusPortErr_err (st : Status) : (statusPortErr st).err = st.err := rfl

@[simp] theorem statusW1C_busy (v : Word) (st : Status) : (statusW1C v st).busy = st.busy := rfl
@[simp] theorem statusW1C_done (v : Word) (st : Status) : (statusW1C v st).done = st.done := rfl
@[simp] theorem statusW1C_nochg (v : Word) (st : Status) : (statusW1C v st).nochg = st.nochg := rfl
@[simp] theorem statusW1C_ovr (v : Word) (st : Status) : (statusW1C v st).ovr = (st.ovr && !v.getLsbD 3) := rfl
@[simp] theorem statusW1C_serr (v : Word) (st : Status) : (statusW1C v st).serr = (st.serr && !v.getLsbD 4) := rfl
@[simp] theorem statusW1C_porterr (v : Word) (st : Status) : (statusW1C v st).porterr = (st.porterr && !v.getLsbD 5) := rfl
@[simp] theorem statusW1C_err (v : Word) (st : Status) : (statusW1C v st).err = st.err := rfl

end Sys2Proof.Machine
end

