-- ==== Sys2Proof/Laws/Ops.lean ====
section
/-! SUPPORT. One lemma for each shared operation that says once everything it can do; the provers cite these and unfold
no operation. -/

namespace Sys2Proof.Machine

/-! Ends of a command and checks. -/

/-- A command's end is a next state: the completion of the state it returns, or the report of the error it raises. -/
theorem endCommand_cases (s : State) (r : Except Err State) :
    (∃ t, r = .ok t ∧ endCommand s r = .next (complete t))
      ∨ (∃ e, r = .error e ∧ endCommand s r = .next (raiseError e s)) := by
  cases r with
  | ok t => exact .inl ⟨t, rfl, rfl⟩
  | error e => exact .inr ⟨e, rfl, rfl⟩

theorem endCommand_ok (s t : State) : endCommand s (.ok t) = .next (complete t) := rfl

theorem endCommand_error (s : State) (e : Err) : endCommand s (.error e) = .next (raiseError e s) := rfl

/-- A bind succeeds exactly when both parts do. -/
theorem except_bind_ok {ε α β : Type} (x : Except ε α) (f : α → Except ε β) (b : β) :
    (x >>= f) = .ok b ↔ ∃ a, x = .ok a ∧ f a = .ok b := by
  cases x with
  | ok a => simp [bind, Except.bind]
  | error e => simp [bind, Except.bind]

/-- A bind fails with the first part's error, or with the second's after the first part succeeded. -/
theorem except_bind_error {ε α β : Type} (x : Except ε α) (f : α → Except ε β) (e : ε) :
    (x >>= f) = .error e ↔ x = .error e ∨ ∃ a, x = .ok a ∧ f a = .error e := by
  cases x with
  | ok a => simp [bind, Except.bind]
  | error e => simp [bind, Except.bind]

theorem require_ok (p : Prop) [Decidable p] (e : Err) (u : Unit) : require p e = .ok u ↔ p := by
  unfold require
  split <;> simp_all

theorem require_error (p : Prop) [Decidable p] (e f : Err) : require p e = .error f ↔ ¬p ∧ f = e := by
  unfold require
  split <;> simp_all [eq_comm]

theorem require_pos {p : Prop} [Decidable p] (h : p) (e : Err) : require p e = .ok () := if_pos h

theorem require_neg {p : Prop} [Decidable p] (h : ¬p) (e : Err) : require p e = .error e := if_neg h

/-- The info of an error whose rule names a value: the value's 32-bit pattern, and no free value is taken. -/
@[simp] theorem infoWord_val (n : Int) (free : Nat) : infoWord (.val n) free = BitVec.ofInt 32 n := rfl

@[simp] theorem infoFree_val (n : Int) : infoFree (.val n) = 0 := rfl

/-- Several values the rule allows: the word is the pattern of one of them. -/
theorem infoWord_oneOf (a : Int) (rest : List Int) (free : Nat) :
    ∃ b ∈ a :: rest, infoWord (.oneOf a rest) free = BitVec.ofInt 32 b := by
  cases rest with
  | nil => exact ⟨a, by simp, rfl⟩
  | cons b rest =>
    have h : Config.offenderPick free % (rest.length + 2) < (a :: b :: rest).length := by
      simpa using Nat.mod_lt (Config.offenderPick free) (Nat.succ_pos (rest.length + 1))
    exact ⟨_, List.getElem_mem h, by simp [infoWord, pattern, List.getD_eq_getElem?_getD, List.getElem?_eq_getElem h]⟩

/-! Stream primitives. -/

/-- BitWrite: one bit longer, or CapacityError 0x60 with the capacity as info. -/
theorem bitWrite_cases (b : Bits) (c : Bool) :
    (b.length ≠ Config.bitCap ∧ bitWrite b c = .ok (b ++ [c]))
      ∨ (b.length = Config.bitCap ∧ bitWrite b c = .error (capacityErr 0x60#8 (.val Config.bitCap))) := by
  unfold bitWrite
  split <;> simp_all

/-- Writing a string whose stated length is right is writing its bits one after the other, when BOUT is within its
capacity (log 20). -/
theorem bitsWrite_eq_foldlM (w b : Bits) (h : b.length ≤ Config.bitCap) :
    bitsWrite b w.length w = w.foldlM bitWrite b := by
  induction w generalizing b with
  | nil =>
    have : ¬(Config.bitCap < b.length ∧ b.length ≤ Config.bitCap) := by omega
    simp [bitsWrite, this]
    rfl
  | cons c w ih =>
    rw [List.foldlM_cons]
    rcases bitWrite_cases b c with ⟨hne, hw⟩ | ⟨heq, hw⟩
    · have hb : (b ++ [c]).length ≤ Config.bitCap := by simp; omega
      have := ih (b ++ [c]) hb
      rw [hw]
      show _ = w.foldlM bitWrite (b ++ [c])
      rw [← this]
      simp only [bitsWrite, List.length_append, List.length_cons, List.length_nil] at *
      by_cases hc : Config.bitCap < b.length + (w.length + 1)
      · rw [if_pos ⟨hc, h⟩, if_pos ⟨by omega, hb⟩]
      · rw [if_neg (fun k => hc k.1), if_neg (fun k => hc (by omega)), List.append_assoc, List.singleton_append]
    · rw [hw]
      have : Config.bitCap < b.length + (c :: w).length := by simp; omega
      simp only [bitsWrite]
      rw [if_pos ⟨this, h⟩]
      rfl

theorem bitsWrite_ok (b w : Bits) (len : Nat) (h : b.length + len ≤ Config.bitCap) :
    bitsWrite b len w = .ok (b ++ w) := if_neg (fun k => by omega)

/-- SeqPush: one element longer, or one of its two errors, the capacity first. -/
theorem seqPush_cases (q : List Int) (v : Int) :
    (q.length ≠ Config.seqCap ∧ inElemRange v ∧ seqPush q v = .ok (q ++ [v]))
      ∨ (q.length = Config.seqCap ∧ seqPush q v = .error (capacityErr 0x61#8 (.val Config.seqCap)))
      ∨ (q.length ≠ Config.seqCap ∧ ¬inElemRange v ∧ seqPush q v = .error (domainErr 0x62#8 (.val v))) := by
  unfold seqPush inElemRange
  split
  · simp_all
  · split <;> simp_all

/-- SeqPush of a whole list that fits. -/
theorem seqPushAll_ok (vs q : List Int) (hlen : q.length + vs.length ≤ Config.seqCap) (h : ∀ v ∈ vs, inElemRange v) :
    seqPushAll q vs = .ok (q ++ vs) := by
  induction vs generalizing q with
  | nil => simp [seqPushAll]; rfl
  | cons v vs ih =>
    have hv : seqPush q v = .ok (q ++ [v]) := by
      rcases seqPush_cases q v with ⟨-, -, h1⟩ | ⟨h1, -⟩ | ⟨-, h1, -⟩
      · exact h1
      · simp at hlen; omega
      · exact absurd (h v (by simp)) h1
    have := ih (q ++ [v]) (by simp at *; omega) (fun u hu => h u (by simp [hu]))
    simp only [seqPushAll, List.foldlM_cons] at *
    rw [hv]
    simpa [bind, Except.bind] using this

/-- What SeqPush of a whole list returns, if it returns. -/
theorem seqPushAll_eq (vs q r : List Int) (h : seqPushAll q vs = .ok r) :
    r = q ++ vs ∧ (q.length ≤ Config.seqCap → r.length ≤ Config.seqCap) ∧ ∀ v ∈ vs, inElemRange v := by
  induction vs generalizing q with
  | nil =>
    have : r = q := by simpa [seqPushAll, pure, Except.pure, eq_comm] using h
    simp [this]
  | cons v vs ih =>
    simp only [seqPushAll, List.foldlM_cons, except_bind_ok] at h
    obtain ⟨q', hq, h⟩ := h
    rcases seqPush_cases q v with ⟨hne, hv, h1⟩ | ⟨-, h1⟩ | ⟨-, -, h1⟩
    · obtain rfl : q' = q ++ [v] := by simpa [eq_comm] using h1.symm.trans hq
      obtain ⟨rfl, hl, hm⟩ := ih _ h
      refine ⟨by simp, fun hq' => hl (by simp; omega), ?_⟩
      simpa using ⟨hv, hm⟩
    · simp [h1] at hq
    · simp [h1] at hq

/-- Reading back a field of w bits. -/
theorem readInto_binMsb (w v n : Nat) (t : Bits) :
    readInto w v (binMsb w n ++ t) = .ok (v * 2 ^ w + n % 2 ^ w, t) := by
  induction w generalizing v with
  | zero => simp [readInto, binMsb, Nat.mod_one]
  | succ w ih =>
    simp only [binMsb, List.cons_append, readInto, bitRead, ih]
    have hb : (n.testBit w).toNat = n / 2 ^ w % 2 := by rw [Nat.toNat_testBit]
    have hm : n % 2 ^ (w + 1) = 2 ^ w * (n / 2 ^ w % 2) + n % 2 ^ w := by
      rw [pow_succ, Nat.mod_mul, Nat.add_comm]
    rw [hb, hm, pow_succ]
    congr 2
    ring

@[simp] theorem binMsb_length (w v : Nat) : (binMsb w v).length = w := by
  induction w with
  | zero => rfl
  | succ w ih => simp [binMsb, ih]

/-! The canonical lists: rankings and value cache. -/

theorem rankLt_trans {a b c : RankEntry} (h : rankLt a b = true) (k : rankLt b c = true) : rankLt a c = true := by
  simp only [rankLt, Bool.or_eq_true, Bool.and_eq_true, decide_eq_true_eq, beq_iff_eq] at *
  omega

theorem rankLt_total (a b : RankEntry) : rankLt a b = true ∨ a = b ∨ rankLt b a = true := by
  cases a
  cases b
  simp only [rankLt, Bool.or_eq_true, Bool.and_eq_true, decide_eq_true_eq, beq_iff_eq, RankEntry.mk.injEq]
  omega

theorem rankLt_irrefl (a : RankEntry) : rankLt a a = false := by simp [rankLt]

/-- Insert adds exactly its entry. -/
theorem mem_rankInsert (e f : RankEntry) (l : List RankEntry) : f ∈ rankInsert e l ↔ f = e ∨ f ∈ l := by
  induction l with
  | nil => simp [rankInsert]
  | cons a l ih =>
    simp only [rankInsert]
    split
    · simp
    · split
      · simp [ih]; tauto
      · rename_i h1 h2
        rcases rankLt_total e a with h | rfl | h
        · exact absurd h h1
        · simp
        · exact absurd h h2

/-- Insert keeps the strict key order. -/
theorem rankInsert_sorted (e : RankEntry) (l : List RankEntry) (h : l.Pairwise (fun a b => rankLt a b = true)) :
    (rankInsert e l).Pairwise (fun a b => rankLt a b = true) := by
  induction l with
  | nil => simp [rankInsert]
  | cons a l ih =>
    obtain ⟨ha, hl⟩ := List.pairwise_cons.mp h
    simp only [rankInsert]
    split
    · rename_i h1
      refine List.pairwise_cons.mpr ⟨fun b hb => ?_, h⟩
      rcases List.mem_cons.mp hb with rfl | hb
      · exact h1
      · exact rankLt_trans h1 (ha b hb)
    · split
      · rename_i h2
        refine List.pairwise_cons.mpr ⟨fun b hb => ?_, ih hl⟩
        rcases (mem_rankInsert e b l).mp hb with rfl | hb
        · exact h2
        · exact ha b hb
      · exact h

theorem rankRemove_sorted (x : Nat) (y : Int) (l : List RankEntry) (h : l.Pairwise (fun a b => rankLt a b = true)) :
    (rankRemove x y l).Pairwise (fun a b => rankLt a b = true) := h.filter _

theorem mem_rankRemove (x : Nat) (y : Int) (e : RankEntry) (l : List RankEntry) :
    e ∈ rankRemove x y l ↔ e ∈ l ∧ ¬(e.x = x ∧ e.y = y) := by
  simp [rankRemove]
  tauto

theorem vcLt_trans {a b c : VcEntry} (h : vcLt a b = true) (k : vcLt b c = true) : vcLt a c = true := by
  simp only [vcLt, Bool.or_eq_true, Bool.and_eq_true, decide_eq_true_eq, beq_iff_eq] at *
  omega

/-- What the value cache holds after an insertion: the new entry, and old ones. -/
theorem mem_vcInsert (e f : VcEntry) (l : List VcEntry) (h : f ∈ vcInsert e l) : f = e ∨ f ∈ l := by
  induction l with
  | nil => simpa [vcInsert] using h
  | cons a l ih =>
    simp only [vcInsert] at h
    split at h
    · simpa using h
    · split at h
      · rcases List.mem_cons.mp h with rfl | h
        · simp
        · rcases ih h with h | h <;> simp [h]
      · rcases List.mem_cons.mp h with h | h <;> simp [h]

/-- An insertion keeps the strict (key, x) order. -/
theorem vcInsert_sorted (e : VcEntry) (l : List VcEntry) (h : l.Pairwise (fun a b => vcLt a b = true)) :
    (vcInsert e l).Pairwise (fun a b => vcLt a b = true) := by
  induction l with
  | nil => simp [vcInsert]
  | cons a l ih =>
    obtain ⟨ha, hl⟩ := List.pairwise_cons.mp h
    simp only [vcInsert]
    split
    · rename_i h1
      refine List.pairwise_cons.mpr ⟨fun b hb => ?_, h⟩
      rcases List.mem_cons.mp hb with rfl | hb
      · exact h1
      · exact vcLt_trans h1 (ha b hb)
    · split
      · rename_i h1 h2
        refine List.pairwise_cons.mpr ⟨fun b hb => ?_, ih hl⟩
        rcases mem_vcInsert e b l hb with rfl | hb
        · exact h2
        · exact ha b hb
      · rename_i h1 h2
        refine List.pairwise_cons.mpr ⟨fun b hb => ?_, hl⟩
        have := ha b hb
        simp only [vcLt, Bool.or_eq_true, Bool.and_eq_true, decide_eq_true_eq, beq_iff_eq] at *
        omega

theorem vcDrop_sorted (k : Int) (l : List VcEntry) (h : l.Pairwise (fun a b => vcLt a b = true)) :
    (vcDrop k l).Pairwise (fun a b => vcLt a b = true) := h.filter _

theorem vcInsert_length (e : VcEntry) (l : List VcEntry) : (vcInsert e l).length ≤ l.length + 1 := by
  induction l with
  | nil => simp [vcInsert]
  | cons a l ih =>
    simp only [vcInsert]
    split
    · simp
    · split
      · simpa using ih
      · simp

/-- Storing a prediction keeps the cache within its capacity. -/
theorem vcStore_length (e : VcEntry) (l : List VcEntry) (h : l.length ≤ Config.vcCap) :
    (vcStore e l).length ≤ Config.vcCap := by
  unfold vcStore
  split
  · simp [Config.vcCap]
  · have := vcInsert_length e l
    omega

/-! Prediction. -/

/-- A prediction changes nothing of the Spline but the value cache. -/
theorem predict_frame (spl : Spline) (x : Nat) : ∃ vc, (predict spl x).2 = { spl with vc := vc } := by
  unfold predict
  split
  · exact ⟨spl.vc, rfl⟩
  · split
    · split
      · exact ⟨spl.vc, rfl⟩
      · exact ⟨_, rfl⟩
    · exact ⟨spl.vc, rfl⟩

/-! Catalogue functions. -/

/-- Eliminate: what it checks and what it leaves, when it returns. -/
theorem eliminate_ok (cat : Catalogue) (x : Nat) (y : Int) (cat' : Catalogue) (crit : Bool)
    (h : eliminate cat x y = .ok (cat', crit)) :
    (columnAt cat x).rsv = false ∧ unknownCount (columnAt cat x) ≠ 1
      ∧ ∃ c', (y = (columnAt cat x).lo + 1 ∧ c' = { columnAt cat x with lo := y }
            ∨ y ≠ (columnAt cat x).lo + 1 ∧ y = (columnAt cat x).hi - 1 ∧ c' = { columnAt cat x with hi := y })
          ∧ cat' = setColumn cat x c' ∧ crit = (unknownCount c' == 1) := by
  simp only [eliminate, except_bind_ok, require_ok] at h
  obtain ⟨-, h1, -, h2, h3⟩ := h
  refine ⟨h1, h2, ?_⟩
  split at h3
  · rename_i hy
    obtain ⟨rfl, rfl⟩ : setColumn cat x { columnAt cat x with lo := y } = cat'
        ∧ (unknownCount { columnAt cat x with lo := y } == 1) = crit := by
      simpa [pure, Except.pure] using h3
    exact ⟨_, .inl ⟨hy, rfl⟩, rfl, rfl⟩
  · split at h3
    · rename_i hy hz
      obtain ⟨rfl, rfl⟩ : setColumn cat x { columnAt cat x with hi := y } = cat'
          ∧ (unknownCount { columnAt cat x with hi := y } == 1) = crit := by
        simpa [pure, Except.pure] using h3
      exact ⟨_, .inr ⟨hy, hz, rfl⟩, rfl, rfl⟩
    · cases h3

/-- EliminateColumn: what it checks and what it leaves, when it returns. -/
theorem eliminateColumn_ok (cat cat' : Catalogue) (x : Nat) (v : Int) (h : eliminateColumn cat x v = .ok cat') :
    (columnAt cat x).rsv = false ∧ (columnAt cat x).lo < v ∧ v < (columnAt cat x).hi
      ∧ cat' = setColumn cat x (resolvedColumn v) := by
  simp only [eliminateColumn, except_bind_ok, require_ok] at h
  obtain ⟨-, h1, -, h2, h3⟩ := h
  exact ⟨h1, h2.1, h2.2, by simpa [pure, Except.pure, eq_comm] using h3⟩

/-- Set: what it checks and what it leaves, when it returns. -/
theorem setBone_ok (spl spl' : Spline) (x : Nat) (y : Int) (h : setBone spl x y = .ok spl') :
    x < spl.n ∧ y < spl.v
      ∧ (boneAt spl.bones x = none ∧ spl' = installBone spl x y ∨ boneAt spl.bones x = some y ∧ spl' = spl) := by
  simp only [setBone, except_bind_ok, require_ok] at h
  obtain ⟨-, h1, -, h2, h3⟩ := h
  refine ⟨h1, h2, ?_⟩
  split at h3
  · rename_i hb
    exact .inl ⟨hb, by simpa [pure, Except.pure, eq_comm] using h3⟩
  · rename_i z hb
    split at h3
    · rename_i hz
      exact .inr ⟨hz ▸ hb, by simpa [pure, Except.pure, eq_comm] using h3⟩
    · cases h3

/-! The step. -/

/-- Everything a step can do: a host access, nothing, or the latched command. -/
theorem step_cases (s : State) :
    (∃ a rest, hostTurn s = some (a, rest) ∧ step s = .next (hostAccess a { s with host := rest }))
      ∨ (hostTurn s = none ∧ s.seq = .idle ∧ step s = .next s)
      ∨ (hostTurn s = none ∧ s.seq = .busy ∧ step s = runLatched s) := by
  unfold step sequencerStep
  cases hh : hostTurn s with
  | some p => exact .inl ⟨p.1, p.2, rfl, rfl⟩
  | none => cases hs : s.seq <;> simp

/-- A host access writes registers and streams; the structures change only by a reset. -/
theorem hostAccess_structures (a : HostAccess) (s : State) (h : a ≠ .reset) :
    (hostAccess a s).spl = s.spl ∧ (hostAccess a s).cat = s.cat ∧ (hostAccess a s).cer = s.cer
      ∧ (hostAccess a s).host = s.host := by
  cases a with
  | reset => exact absurd rfl h
  | read off w =>
    simp only [hostAccess, hostRead]
    split
    · split
      · simp
      · rename_i r _
        split <;> cases r <;> simp [readIdle, readBusy, popBout, popSout] <;> split <;> simp
    · simp
  | write off w v =>
    simp only [hostAccess, hostWrite]
    split
    · split
      · simp
      · rename_i r _
        split <;> cases r <;> simp [writeIdle, writeBusy, overrunsOnWrite, pushBin, pushSin] <;> split <;> simp
    · simp

end Sys2Proof.Machine
end

