-- ==== Sys2Proof/Laws/PerInstr.lean ====
section
/-! SUPPORT. Families of statements made once for each constructor of Instr. `TableRow`: the encoder's word carries the
fixed bits of the instruction's row of spec/opcode_table.json. -/

namespace Sys2Proof.Laws.TableRow

open Sys2Proof

/-- The mask and match of each row of spec/opcode_table.json, copied digit for digit. -/
def row (i : Instr) : Word × Word :=
  match i with
  | .ctlNop => (0xFFFFFFFF#32, 0x00000000#32)
  | .ctlSreset => (0xFFFFFFFF#32, 0x00000001#32)
  | .ctlFlush _ => (0xFFFFF0FF#32, 0x00000002#32)
  | .ctlCinv => (0xFFFFFFFF#32, 0x00000003#32)
  | .encUnary _ => (0xFFFCFFFF#32, 0x00000010#32)
  | .encGamma _ => (0xFFFCFFFF#32, 0x00000110#32)
  | .encDelta _ => (0xFFFCFFFF#32, 0x00000210#32)
  | .encFib _ => (0xFFFCFFFF#32, 0x00000310#32)
  | .encTrib _ => (0xFFFCFFFF#32, 0x00000410#32)
  | .encEnb4 _ => (0xFFFCFFFF#32, 0x00000510#32)
  | .encEnb5 _ => (0xFFFCFFFF#32, 0x00000610#32)
  | .encEnb6 _ => (0xFFFCFFFF#32, 0x00000710#32)
  | .encEnb7 _ => (0xFFFCFFFF#32, 0x00000810#32)
  | .encEnb8 _ => (0xFFFCFFFF#32, 0x00000910#32)
  | .encGfib _ => (0xFFFCFFFF#32, 0x00000A10#32)
  | .encDfib _ => (0xFFFCFFFF#32, 0x00000B10#32)
  | .encGiota _ => (0xFFFCFFFF#32, 0x00000C10#32)
  | .encDiota _ => (0xFFFCFFFF#32, 0x00000D10#32)
  | .decUnary _ => (0xFFFCFFFF#32, 0x00000011#32)
  | .decGamma _ => (0xFFFCFFFF#32, 0x00000111#32)
  | .decDelta _ => (0xFFFCFFFF#32, 0x00000211#32)
  | .decFib _ => (0xFFFCFFFF#32, 0x00000311#32)
  | .decTrib _ => (0xFFFCFFFF#32, 0x00000411#32)
  | .decEnb4 _ => (0xFFFCFFFF#32, 0x00000511#32)
  | .decEnb5 _ => (0xFFFCFFFF#32, 0x00000611#32)
  | .decEnb6 _ => (0xFFFCFFFF#32, 0x00000711#32)
  | .decEnb7 _ => (0xFFFCFFFF#32, 0x00000811#32)
  | .decEnb8 _ => (0xFFFCFFFF#32, 0x00000911#32)
  | .decGfib _ => (0xFFFCFFFF#32, 0x00000A11#32)
  | .decDfib _ => (0xFFFCFFFF#32, 0x00000B11#32)
  | .decGiota _ => (0xFFFCFFFF#32, 0x00000C11#32)
  | .decDiota _ => (0xFFFCFFFF#32, 0x00000D11#32)
  | .encseqUnary _ => (0xFFFCFFFF#32, 0x00000012#32)
  | .encseqGamma _ => (0xFFFCFFFF#32, 0x00000112#32)
  | .encseqDelta _ => (0xFFFCFFFF#32, 0x00000212#32)
  | .encseqFib _ => (0xFFFCFFFF#32, 0x00000312#32)
  | .encseqTrib _ => (0xFFFCFFFF#32, 0x00000412#32)
  | .encseqEnb4 _ => (0xFFFCFFFF#32, 0x00000512#32)
  | .encseqEnb5 _ => (0xFFFCFFFF#32, 0x00000612#32)
  | .encseqEnb6 _ => (0xFFFCFFFF#32, 0x00000712#32)
  | .encseqEnb7 _ => (0xFFFCFFFF#32, 0x00000812#32)
  | .encseqEnb8 _ => (0xFFFCFFFF#32, 0x00000912#32)
  | .encseqGfib _ => (0xFFFCFFFF#32, 0x00000A12#32)
  | .encseqDfib _ => (0xFFFCFFFF#32, 0x00000B12#32)
  | .encseqGiota _ => (0xFFFCFFFF#32, 0x00000C12#32)
  | .encseqDiota _ => (0xFFFCFFFF#32, 0x00000D12#32)
  | .decseqUnary _ => (0xFFFCFFFF#32, 0x00000013#32)
  | .decseqGamma _ => (0xFFFCFFFF#32, 0x00000113#32)
  | .decseqDelta _ => (0xFFFCFFFF#32, 0x00000213#32)
  | .decseqFib _ => (0xFFFCFFFF#32, 0x00000313#32)
  | .decseqTrib _ => (0xFFFCFFFF#32, 0x00000413#32)
  | .decseqEnb4 _ => (0xFFFCFFFF#32, 0x00000513#32)
  | .decseqEnb5 _ => (0xFFFCFFFF#32, 0x00000613#32)
  | .decseqEnb6 _ => (0xFFFCFFFF#32, 0x00000713#32)
  | .decseqEnb7 _ => (0xFFFCFFFF#32, 0x00000813#32)
  | .decseqEnb8 _ => (0xFFFCFFFF#32, 0x00000913#32)
  | .decseqGfib _ => (0xFFFCFFFF#32, 0x00000A13#32)
  | .decseqDfib _ => (0xFFFCFFFF#32, 0x00000B13#32)
  | .decseqGiota _ => (0xFFFCFFFF#32, 0x00000C13#32)
  | .decseqDiota _ => (0xFFFCFFFF#32, 0x00000D13#32)
  | .xfDeltae => (0xFFFFFFFF#32, 0x00000020#32)
  | .xfDeltad => (0xFFFFFFFF#32, 0x00000021#32)
  | .xfZze => (0xFFFFFFFF#32, 0x00000022#32)
  | .xfZzd => (0xFFFFFFFF#32, 0x00000023#32)
  | .xfFzze => (0xFFFFFFFF#32, 0x00000024#32)
  | .xfFzzd => (0xFFFFFFFF#32, 0x00000025#32)
  | .xfHaveneUnary => (0xFFFFFFFF#32, 0x00000026#32)
  | .xfHaveneGamma => (0xFFFFFFFF#32, 0x00000126#32)
  | .xfHaveneDelta => (0xFFFFFFFF#32, 0x00000226#32)
  | .xfHaveneFib => (0xFFFFFFFF#32, 0x00000326#32)
  | .xfHaveneTrib => (0xFFFFFFFF#32, 0x00000426#32)
  | .xfHaveneEnb4 => (0xFFFFFFFF#32, 0x00000526#32)
  | .xfHaveneEnb5 => (0xFFFFFFFF#32, 0x00000626#32)
  | .xfHaveneEnb6 => (0xFFFFFFFF#32, 0x00000726#32)
  | .xfHaveneEnb7 => (0xFFFFFFFF#32, 0x00000826#32)
  | .xfHaveneEnb8 => (0xFFFFFFFF#32, 0x00000926#32)
  | .xfHaveneGfib => (0xFFFFFFFF#32, 0x00000A26#32)
  | .xfHaveneDfib => (0xFFFFFFFF#32, 0x00000B26#32)
  | .xfHaveneGiota => (0xFFFFFFFF#32, 0x00000C26#32)
  | .xfHaveneDiota => (0xFFFFFFFF#32, 0x00000D26#32)
  | .xfHavendUnary => (0xFFFFFFFF#32, 0x00000027#32)
  | .xfHavendGamma => (0xFFFFFFFF#32, 0x00000127#32)
  | .xfHavendDelta => (0xFFFFFFFF#32, 0x00000227#32)
  | .xfHavendFib => (0xFFFFFFFF#32, 0x00000327#32)
  | .xfHavendTrib => (0xFFFFFFFF#32, 0x00000427#32)
  | .xfHavendEnb4 => (0xFFFFFFFF#32, 0x00000527#32)
  | .xfHavendEnb5 => (0xFFFFFFFF#32, 0x00000627#32)
  | .xfHavendEnb6 => (0xFFFFFFFF#32, 0x00000727#32)
  | .xfHavendEnb7 => (0xFFFFFFFF#32, 0x00000827#32)
  | .xfHavendEnb8 => (0xFFFFFFFF#32, 0x00000927#32)
  | .xfHavendGfib => (0xFFFFFFFF#32, 0x00000A27#32)
  | .xfHavendDfib => (0xFFFFFFFF#32, 0x00000B27#32)
  | .xfHavendGiota => (0xFFFFFFFF#32, 0x00000C27#32)
  | .xfHavendDiota => (0xFFFFFFFF#32, 0x00000D27#32)
  | .xfTsume => (0xFFFFFFFF#32, 0x00000028#32)
  | .xfTsumd => (0xFFFFFFFF#32, 0x00000029#32)
  | .xfRulere => (0xFFFFFFFF#32, 0x0000002A#32)
  | .xfRulerd => (0xFFFFFFFF#32, 0x0000002B#32)
  | .xfPale => (0xFFFFFFFF#32, 0x0000002C#32)
  | .xfPald => (0xFFFFFFFF#32, 0x0000002D#32)
  | .xfFlre => (0xFFFFFFFF#32, 0x0000002E#32)
  | .xfFlrd => (0xFFFFFFFF#32, 0x0000002F#32)
  | .xfMede => (0xFFFFFFFF#32, 0x00000030#32)
  | .xfMedd => (0xFFFFFFFF#32, 0x00000031#32)
  | .catInit => (0xFFFFFFFF#32, 0x00000040#32)
  | .catCount => (0xFFFFFFFF#32, 0x00000041#32)
  | .catStatus => (0xFFFFFFFF#32, 0x00000042#32)
  | .catElim => (0xFFFFFFFF#32, 0x00000043#32)
  | .catElimcol => (0xFFFFFFFF#32, 0x00000044#32)
  | .catImpmin => (0xFFFFFFFF#32, 0x00000045#32)
  | .catImpmax => (0xFFFFFFFF#32, 0x00000046#32)
  | .catExtreme => (0xFFFFFFFF#32, 0x00000047#32)
  | .catClamp => (0xFFFFFFFF#32, 0x00000048#32)
  | .catLimits => (0xFFFFFFFF#32, 0x00000049#32)
  | .splInit => (0xFFFFFFFF#32, 0x00000050#32)
  | .splSet => (0xFFFFFFFF#32, 0x00000051#32)
  | .splPred => (0xFFFFFFFF#32, 0x00000052#32)
  | .splSurr => (0xFFFFFFFF#32, 0x00000053#32)
  | .splBone => (0xFFFFFFFF#32, 0x00000054#32)
  | .splPredall => (0xFFFFFFFF#32, 0x00000055#32)
  | .cerInit => (0xFFFFFFFF#32, 0x00000060#32)
  | .cerRun => (0xFFFFFFFF#32, 0x00000061#32)
  | .cerBlock => (0xFFFFFFFF#32, 0x00000062#32)
  | .cerFill => (0xFFFFFFFF#32, 0x00000063#32)
  | .cerPress => (0xFFFFFFFF#32, 0x00000064#32)
  | .cerPlain => (0xFFFFFFFF#32, 0x00000065#32)
  | .cerEncblk => (0xFFFFFFFF#32, 0x00000066#32)
  | .cerDecblk => (0xFFFFFFFF#32, 0x00000067#32)
  | .cerScore => (0xFFFFFFFF#32, 0x00000068#32)

/-- The word of a well-formed instruction has its row's fixed bits. -/
def Statement (i : Instr) : Prop := i.wf = true → encode i &&& (row i).1 = (row i).2

theorem ctlNop : Statement .ctlNop := fun _ => by decide
theorem ctlSreset : Statement .ctlSreset := fun _ => by decide
/-- By cases on the sixteen masks whose high half is 0. -/
theorem ctlFlush (m : BitVec 8) : Statement (.ctlFlush m) := by
  revert m
  unfold Statement
  decide +kernel
theorem ctlCinv : Statement .ctlCinv := fun _ => by decide
theorem encUnary (d : Dom) : Statement (.encUnary d) := by cases d <;> exact fun _ => by decide
theorem encGamma (d : Dom) : Statement (.encGamma d) := by cases d <;> exact fun _ => by decide
theorem encDelta (d : Dom) : Statement (.encDelta d) := by cases d <;> exact fun _ => by decide
theorem encFib (d : Dom) : Statement (.encFib d) := by cases d <;> exact fun _ => by decide
theorem encTrib (d : Dom) : Statement (.encTrib d) := by cases d <;> exact fun _ => by decide
theorem encEnb4 (d : Dom) : Statement (.encEnb4 d) := by cases d <;> exact fun _ => by decide
theorem encEnb5 (d : Dom) : Statement (.encEnb5 d) := by cases d <;> exact fun _ => by decide
theorem encEnb6 (d : Dom) : Statement (.encEnb6 d) := by cases d <;> exact fun _ => by decide
theorem encEnb7 (d : Dom) : Statement (.encEnb7 d) := by cases d <;> exact fun _ => by decide
theorem encEnb8 (d : Dom) : Statement (.encEnb8 d) := by cases d <;> exact fun _ => by decide
theorem encGfib (d : Dom) : Statement (.encGfib d) := by cases d <;> exact fun _ => by decide
theorem encDfib (d : Dom) : Statement (.encDfib d) := by cases d <;> exact fun _ => by decide
theorem encGiota (d : Dom) : Statement (.encGiota d) := by cases d <;> exact fun _ => by decide
theorem encDiota (d : Dom) : Statement (.encDiota d) := by cases d <;> exact fun _ => by decide
theorem decUnary (d : Dom) : Statement (.decUnary d) := by cases d <;> exact fun _ => by decide
theorem decGamma (d : Dom) : Statement (.decGamma d) := by cases d <;> exact fun _ => by decide
theorem decDelta (d : Dom) : Statement (.decDelta d) := by cases d <;> exact fun _ => by decide
theorem decFib (d : Dom) : Statement (.decFib d) := by cases d <;> exact fun _ => by decide
theorem decTrib (d : Dom) : Statement (.decTrib d) := by cases d <;> exact fun _ => by decide
theorem decEnb4 (d : Dom) : Statement (.decEnb4 d) := by cases d <;> exact fun _ => by decide
theorem decEnb5 (d : Dom) : Statement (.decEnb5 d) := by cases d <;> exact fun _ => by decide
theorem decEnb6 (d : Dom) : Statement (.decEnb6 d) := by cases d <;> exact fun _ => by decide
theorem decEnb7 (d : Dom) : Statement (.decEnb7 d) := by cases d <;> exact fun _ => by decide
theorem decEnb8 (d : Dom) : Statement (.decEnb8 d) := by cases d <;> exact fun _ => by decide
theorem decGfib (d : Dom) : Statement (.decGfib d) := by cases d <;> exact fun _ => by decide
theorem decDfib (d : Dom) : Statement (.decDfib d) := by cases d <;> exact fun _ => by decide
theorem decGiota (d : Dom) : Statement (.decGiota d) := by cases d <;> exact fun _ => by decide
theorem decDiota (d : Dom) : Statement (.decDiota d) := by cases d <;> exact fun _ => by decide
theorem encseqUnary (d : Dom) : Statement (.encseqUnary d) := by cases d <;> exact fun _ => by decide
theorem encseqGamma (d : Dom) : Statement (.encseqGamma d) := by cases d <;> exact fun _ => by decide
theorem encseqDelta (d : Dom) : Statement (.encseqDelta d) := by cases d <;> exact fun _ => by decide
theorem encseqFib (d : Dom) : Statement (.encseqFib d) := by cases d <;> exact fun _ => by decide
theorem encseqTrib (d : Dom) : Statement (.encseqTrib d) := by cases d <;> exact fun _ => by decide
theorem encseqEnb4 (d : Dom) : Statement (.encseqEnb4 d) := by cases d <;> exact fun _ => by decide
theorem encseqEnb5 (d : Dom) : Statement (.encseqEnb5 d) := by cases d <;> exact fun _ => by decide
theorem encseqEnb6 (d : Dom) : Statement (.encseqEnb6 d) := by cases d <;> exact fun _ => by decide
theorem encseqEnb7 (d : Dom) : Statement (.encseqEnb7 d) := by cases d <;> exact fun _ => by decide
theorem encseqEnb8 (d : Dom) : Statement (.encseqEnb8 d) := by cases d <;> exact fun _ => by decide
theorem encseqGfib (d : Dom) : Statement (.encseqGfib d) := by cases d <;> exact fun _ => by decide
theorem encseqDfib (d : Dom) : Statement (.encseqDfib d) := by cases d <;> exact fun _ => by decide
theorem encseqGiota (d : Dom) : Statement (.encseqGiota d) := by cases d <;> exact fun _ => by decide
theorem encseqDiota (d : Dom) : Statement (.encseqDiota d) := by cases d <;> exact fun _ => by decide
theorem decseqUnary (d : Dom) : Statement (.decseqUnary d) := by cases d <;> exact fun _ => by decide
theorem decseqGamma (d : Dom) : Statement (.decseqGamma d) := by cases d <;> exact fun _ => by decide
theorem decseqDelta (d : Dom) : Statement (.decseqDelta d) := by cases d <;> exact fun _ => by decide
theorem decseqFib (d : Dom) : Statement (.decseqFib d) := by cases d <;> exact fun _ => by decide
theorem decseqTrib (d : Dom) : Statement (.decseqTrib d) := by cases d <;> exact fun _ => by decide
theorem decseqEnb4 (d : Dom) : Statement (.decseqEnb4 d) := by cases d <;> exact fun _ => by decide
theorem decseqEnb5 (d : Dom) : Statement (.decseqEnb5 d) := by cases d <;> exact fun _ => by decide
theorem decseqEnb6 (d : Dom) : Statement (.decseqEnb6 d) := by cases d <;> exact fun _ => by decide
theorem decseqEnb7 (d : Dom) : Statement (.decseqEnb7 d) := by cases d <;> exact fun _ => by decide
theorem decseqEnb8 (d : Dom) : Statement (.decseqEnb8 d) := by cases d <;> exact fun _ => by decide
theorem decseqGfib (d : Dom) : Statement (.decseqGfib d) := by cases d <;> exact fun _ => by decide
theorem decseqDfib (d : Dom) : Statement (.decseqDfib d) := by cases d <;> exact fun _ => by decide
theorem decseqGiota (d : Dom) : Statement (.decseqGiota d) := by cases d <;> exact fun _ => by decide
theorem decseqDiota (d : Dom) : Statement (.decseqDiota d) := by cases d <;> exact fun _ => by decide
theorem xfDeltae : Statement .xfDeltae := fun _ => by decide
theorem xfDeltad : Statement .xfDeltad := fun _ => by decide
theorem xfZze : Statement .xfZze := fun _ => by decide
theorem xfZzd : Statement .xfZzd := fun _ => by decide
theorem xfFzze : Statement .xfFzze := fun _ => by decide
theorem xfFzzd : Statement .xfFzzd := fun _ => by decide
theorem xfHaveneUnary : Statement .xfHaveneUnary := fun _ => by decide
theorem xfHaveneGamma : Statement .xfHaveneGamma := fun _ => by decide
theorem xfHaveneDelta : Statement .xfHaveneDelta := fun _ => by decide
theorem xfHaveneFib : Statement .xfHaveneFib := fun _ => by decide
theorem xfHaveneTrib : Statement .xfHaveneTrib := fun _ => by decide
theorem xfHaveneEnb4 : Statement .xfHaveneEnb4 := fun _ => by decide
theorem xfHaveneEnb5 : Statement .xfHaveneEnb5 := fun _ => by decide
theorem xfHaveneEnb6 : Statement .xfHaveneEnb6 := fun _ => by decide
theorem xfHaveneEnb7 : Statement .xfHaveneEnb7 := fun _ => by decide
theorem xfHaveneEnb8 : Statement .xfHaveneEnb8 := fun _ => by decide
theorem xfHaveneGfib : Statement .xfHaveneGfib := fun _ => by decide
theorem xfHaveneDfib : Statement .xfHaveneDfib := fun _ => by decide
theorem xfHaveneGiota : Statement .xfHaveneGiota := fun _ => by decide
theorem xfHaveneDiota : Statement .xfHaveneDiota := fun _ => by decide
theorem xfHavendUnary : Statement .xfHavendUnary := fun _ => by decide
theorem xfHavendGamma : Statement .xfHavendGamma := fun _ => by decide
theorem xfHavendDelta : Statement .xfHavendDelta := fun _ => by decide
theorem xfHavendFib : Statement .xfHavendFib := fun _ => by decide
theorem xfHavendTrib : Statement .xfHavendTrib := fun _ => by decide
theorem xfHavendEnb4 : Statement .xfHavendEnb4 := fun _ => by decide
theorem xfHavendEnb5 : Statement .xfHavendEnb5 := fun _ => by decide
theorem xfHavendEnb6 : Statement .xfHavendEnb6 := fun _ => by decide
theorem xfHavendEnb7 : Statement .xfHavendEnb7 := fun _ => by decide
theorem xfHavendEnb8 : Statement .xfHavendEnb8 := fun _ => by decide
theorem xfHavendGfib : Statement .xfHavendGfib := fun _ => by decide
theorem xfHavendDfib : Statement .xfHavendDfib := fun _ => by decide
theorem xfHavendGiota : Statement .xfHavendGiota := fun _ => by decide
theorem xfHavendDiota : Statement .xfHavendDiota := fun _ => by decide
theorem xfTsume : Statement .xfTsume := fun _ => by decide
theorem xfTsumd : Statement .xfTsumd := fun _ => by decide
theorem xfRulere : Statement .xfRulere := fun _ => by decide
theorem xfRulerd : Statement .xfRulerd := fun _ => by decide
theorem xfPale : Statement .xfPale := fun _ => by decide
theorem xfPald : Statement .xfPald := fun _ => by decide
theorem xfFlre : Statement .xfFlre := fun _ => by decide
theorem xfFlrd : Statement .xfFlrd := fun _ => by decide
theorem xfMede : Statement .xfMede := fun _ => by decide
theorem xfMedd : Statement .xfMedd := fun _ => by decide
theorem catInit : Statement .catInit := fun _ => by decide
theorem catCount : Statement .catCount := fun _ => by decide
theorem catStatus : Statement .catStatus := fun _ => by decide
theorem catElim : Statement .catElim := fun _ => by decide
theorem catElimcol : Statement .catElimcol := fun _ => by decide
theorem catImpmin : Statement .catImpmin := fun _ => by decide
theorem catImpmax : Statement .catImpmax := fun _ => by decide
theorem catExtreme : Statement .catExtreme := fun _ => by decide
theorem catClamp : Statement .catClamp := fun _ => by decide
theorem catLimits : Statement .catLimits := fun _ => by decide
theorem splInit : Statement .splInit := fun _ => by decide
theorem splSet : Statement .splSet := fun _ => by decide
theorem splPred : Statement .splPred := fun _ => by decide
theorem splSurr : Statement .splSurr := fun _ => by decide
theorem splBone : Statement .splBone := fun _ => by decide
theorem splPredall : Statement .splPredall := fun _ => by decide
theorem cerInit : Statement .cerInit := fun _ => by decide
theorem cerRun : Statement .cerRun := fun _ => by decide
theorem cerBlock : Statement .cerBlock := fun _ => by decide
theorem cerFill : Statement .cerFill := fun _ => by decide
theorem cerPress : Statement .cerPress := fun _ => by decide
theorem cerPlain : Statement .cerPlain := fun _ => by decide
theorem cerEncblk : Statement .cerEncblk := fun _ => by decide
theorem cerDecblk : Statement .cerDecblk := fun _ => by decide
theorem cerScore : Statement .cerScore := fun _ => by decide

end Sys2Proof.Laws.TableRow
end

