-- ==== Sys2Proof/Tests/Slice0.lean ====
section
/-! SUPPORT. Tests: the smoke test of WellFormed, a word written out for every constructor, vectors of
95_test_vectors.md (each test's comment names its section), and for each statement that has hypotheses a witness that
meets them all. -/

namespace Sys2Proof.Tests

set_option Elab.async false

open Sys2Proof Sys2Proof.Machine

/-! Helpers. -/

/-- A list of 0 and 1 as bits. -/
def bl (l : List Nat) : Bits := l.map (fun b => b == 1)

/-- The state an outcome goes on in. -/
def after (o : Host.Outcome State Fault Refusal) : State :=
  match o with
  | .next t => t
  | _ => State.reset

/-- An outcome goes on. -/
def goesOn (o : Host.Outcome State Fault Refusal) : Bool :=
  match o with
  | .next _ => true
  | _ => false

theorem eq_after {o : Host.Outcome State Fault Refusal} (h : goesOn o = true) : o = .next (after o) := by
  cases o with
  | next t => rfl
  | fault r => cases h
  | refused r => cases h

/-- A command that has just started, with its operands in ARG0 and ARG1. -/
def with2 (a0 a1 : Nat) : State :=
  { (State.reset.withFetchWord 32 0) with arg0 := BitVec.ofNat 32 a0, arg1 := BitVec.ofNat 32 a1 }

/-- A command that has just started, with SIN given. -/
def withSin (xs : List Int) : State := { with2 0 255 with sin := xs }

/-- A command that has just started, with BIN given. -/
def withBin (bs : List Nat) : State := { with2 0 255 with bin := bl bs }

/-- STATUS, ERRSUB and ERRINFO after an outcome. -/
def errOf (o : Host.Outcome State Fault Refusal) : Nat × Nat × Nat :=
  ((statusWord (after o).status).toNat, (after o).errSub.toNat, (after o).errInfo.toNat)

/-! WellFormed: the one check refuses an ill-formed term. -/

theorem test_wf_flush_low_mask : (Instr.ctlFlush 0x0F#8).wf = true := by decide

theorem test_wf_flush_high_mask_refused : (Instr.ctlFlush 0x10#8).wf = false := by decide

/-! Decoding: for every constructor a word from the tables of 30_encoding.md R91, R93, R95. -/

theorem test_decode_ctl :
  ∀ p ∈ [
    (0x00000000#32, Instr.ctlNop), (0x00000001#32, .ctlSreset), (0x00000A02#32, .ctlFlush 0x0A#8),
      (0x00000003#32, .ctlCinv)],
    decode p.1 = .ok p.2 ∧ encode p.2 = p.1 := by decide

theorem test_decode_enc :
  ∀ p ∈ [
    (0x00000010#32, Instr.encUnary .native), (0x00010110#32, .encGamma .unsigned),
      (0x00020210#32, .encDelta .signed), (0x00000310#32, .encFib .native), (0x00010410#32, .encTrib .unsigned),
      (0x00020510#32, .encEnb4 .signed), (0x00000610#32, .encEnb5 .native), (0x00010710#32, .encEnb6 .unsigned),
      (0x00020810#32, .encEnb7 .signed), (0x00000910#32, .encEnb8 .native), (0x00010A10#32, .encGfib .unsigned),
      (0x00020B10#32, .encDfib .signed), (0x00000C10#32, .encGiota .native), (0x00010D10#32, .encDiota .unsigned)],
    decode p.1 = .ok p.2 ∧ encode p.2 = p.1 := by decide

theorem test_decode_dec :
  ∀ p ∈ [
    (0x00000011#32, Instr.decUnary .native), (0x00010111#32, .decGamma .unsigned),
      (0x00020211#32, .decDelta .signed), (0x00000311#32, .decFib .native), (0x00010411#32, .decTrib .unsigned),
      (0x00020511#32, .decEnb4 .signed), (0x00000611#32, .decEnb5 .native), (0x00010711#32, .decEnb6 .unsigned),
      (0x00020811#32, .decEnb7 .signed), (0x00000911#32, .decEnb8 .native), (0x00010A11#32, .decGfib .unsigned),
      (0x00020B11#32, .decDfib .signed), (0x00000C11#32, .decGiota .native), (0x00010D11#32, .decDiota .unsigned)],
    decode p.1 = .ok p.2 ∧ encode p.2 = p.1 := by decide

theorem test_decode_encseq :
  ∀ p ∈ [
    (0x00000012#32, Instr.encseqUnary .native), (0x00010112#32, .encseqGamma .unsigned),
      (0x00020212#32, .encseqDelta .signed), (0x00000312#32, .encseqFib .native),
      (0x00010412#32, .encseqTrib .unsigned), (0x00020512#32, .encseqEnb4 .signed),
      (0x00000612#32, .encseqEnb5 .native), (0x00010712#32, .encseqEnb6 .unsigned),
      (0x00020812#32, .encseqEnb7 .signed), (0x00000912#32, .encseqEnb8 .native),
      (0x00010A12#32, .encseqGfib .unsigned), (0x00020B12#32, .encseqDfib .signed),
      (0x00000C12#32, .encseqGiota .native), (0x00010D12#32, .encseqDiota .unsigned)],
    decode p.1 = .ok p.2 ∧ encode p.2 = p.1 := by decide

theorem test_decode_decseq :
  ∀ p ∈ [
    (0x00000013#32, Instr.decseqUnary .native), (0x00010113#32, .decseqGamma .unsigned),
      (0x00020213#32, .decseqDelta .signed), (0x00000313#32, .decseqFib .native),
      (0x00010413#32, .decseqTrib .unsigned), (0x00020513#32, .decseqEnb4 .signed),
      (0x00000613#32, .decseqEnb5 .native), (0x00010713#32, .decseqEnb6 .unsigned),
      (0x00020813#32, .decseqEnb7 .signed), (0x00000913#32, .decseqEnb8 .native),
      (0x00010A13#32, .decseqGfib .unsigned), (0x00020B13#32, .decseqDfib .signed),
      (0x00000C13#32, .decseqGiota .native), (0x00010D13#32, .decseqDiota .unsigned)],
    decode p.1 = .ok p.2 ∧ encode p.2 = p.1 := by decide

theorem test_decode_xf :
  ∀ p ∈ [
    (0x00000020#32, Instr.xfDeltae), (0x00000021#32, .xfDeltad), (0x00000022#32, .xfZze), (0x00000023#32, .xfZzd),
      (0x00000024#32, .xfFzze), (0x00000025#32, .xfFzzd), (0x00000028#32, .xfTsume), (0x00000029#32, .xfTsumd),
      (0x0000002A#32, .xfRulere), (0x0000002B#32, .xfRulerd), (0x0000002C#32, .xfPale), (0x0000002D#32, .xfPald),
      (0x0000002E#32, .xfFlre), (0x0000002F#32, .xfFlrd), (0x00000030#32, .xfMede), (0x00000031#32, .xfMedd)],
    decode p.1 = .ok p.2 ∧ encode p.2 = p.1 := by decide

theorem test_decode_xf_havene :
  ∀ p ∈ [
    (0x00000026#32, Instr.xfHaveneUnary), (0x00000126#32, .xfHaveneGamma), (0x00000226#32, .xfHaveneDelta),
      (0x00000326#32, .xfHaveneFib), (0x00000426#32, .xfHaveneTrib), (0x00000526#32, .xfHaveneEnb4),
      (0x00000626#32, .xfHaveneEnb5), (0x00000726#32, .xfHaveneEnb6), (0x00000826#32, .xfHaveneEnb7),
      (0x00000926#32, .xfHaveneEnb8), (0x00000A26#32, .xfHaveneGfib), (0x00000B26#32, .xfHaveneDfib),
      (0x00000C26#32, .xfHaveneGiota), (0x00000D26#32, .xfHaveneDiota)],
    decode p.1 = .ok p.2 ∧ encode p.2 = p.1 := by decide

theorem test_decode_xf_havend :
  ∀ p ∈ [
    (0x00000027#32, Instr.xfHavendUnary), (0x00000127#32, .xfHavendGamma), (0x00000227#32, .xfHavendDelta),
      (0x00000327#32, .xfHavendFib), (0x00000427#32, .xfHavendTrib), (0x00000527#32, .xfHavendEnb4),
      (0x00000627#32, .xfHavendEnb5), (0x00000727#32, .xfHavendEnb6), (0x00000827#32, .xfHavendEnb7),
      (0x00000927#32, .xfHavendEnb8), (0x00000A27#32, .xfHavendGfib), (0x00000B27#32, .xfHavendDfib),
      (0x00000C27#32, .xfHavendGiota), (0x00000D27#32, .xfHavendDiota)],
    decode p.1 = .ok p.2 ∧ encode p.2 = p.1 := by decide

theorem test_decode_cat :
  ∀ p ∈ [
    (0x00000040#32, Instr.catInit), (0x00000041#32, .catCount), (0x00000042#32, .catStatus),
      (0x00000043#32, .catElim), (0x00000044#32, .catElimcol), (0x00000045#32, .catImpmin),
      (0x00000046#32, .catImpmax), (0x00000047#32, .catExtreme), (0x00000048#32, .catClamp),
      (0x00000049#32, .catLimits)],
    decode p.1 = .ok p.2 ∧ encode p.2 = p.1 := by decide

theorem test_decode_spl :
  ∀ p ∈ [
    (0x00000050#32, Instr.splInit), (0x00000051#32, .splSet), (0x00000052#32, .splPred), (0x00000053#32, .splSurr),
      (0x00000054#32, .splBone), (0x00000055#32, .splPredall)],
    decode p.1 = .ok p.2 ∧ encode p.2 = p.1 := by decide

theorem test_decode_cer :
  ∀ p ∈ [
    (0x00000060#32, Instr.cerInit), (0x00000061#32, .cerRun), (0x00000062#32, .cerBlock),
      (0x00000063#32, .cerFill), (0x00000064#32, .cerPress), (0x00000065#32, .cerPlain),
      (0x00000066#32, .cerEncblk), (0x00000067#32, .cerDecblk), (0x00000068#32, .cerScore)],
    decode p.1 = .ok p.2 ∧ encode p.2 = p.1 := by decide

/-- Section 2.1: the illegal words and the check each fails. -/
theorem test_decode_refused :
    ∀ p ∈ [(0x00000004#32, DecodeError.reservedOpcode), (0x00040000#32, .reservedBits), (0x00000122#32, .unusedField),
      (0x00010020#32, .unusedField), (0x00000E10#32, .reservedCodec), (0x00030110#32, .reservedDomain),
      (0x40000000#32, .reservedBits), (0x000400FF#32, .reservedBits),
      (0x00030E10#32, .reservedCodec)],
      decode p.1 = .error p.2 := by decide

/-- The table's numbering: a command's one word is the machine's word. -/
theorem test_decode_table_word : decodeTableWord 32 0x00020110 = some (.encGamma .signed) := by decide
/-! Universal codes, section 2.2 (M = 255 for the Iota codecs). -/

/-- The codewords of 10: ENC writes them and RES0 is their length. -/
theorem test_enc_of_10 :
    ∀ p ∈ [
      (Codec.unary, bl [0, 0, 0, 0, 0, 0, 0, 0, 0, 0, 1]), (.gamma, bl [0, 0, 0, 1, 0, 1, 0]),
      (.delta, bl [0, 0, 1, 0, 0, 0, 1, 0]), (.fib, bl [0, 1, 0, 0, 1, 1]), (.trib, bl [1, 0, 0, 0, 1, 1, 1]),
      (.enb4, bl [1, 0, 0, 0, 1, 1, 1, 1]), (.enb5, bl [1, 0, 0, 0, 1, 1, 1, 1, 1]),
      (.enb6, bl [1, 0, 0, 0, 1, 1, 1, 1, 1, 1]), (.enb7, bl [1, 0, 0, 0, 1, 1, 1, 1, 1, 1, 1]),
      (.enb8, bl [1, 0, 0, 0, 1, 1, 1, 1, 1, 1, 1, 1]), (.gfib, bl [1, 0, 1, 1, 0, 1, 0]),
      (.dfib, bl [0, 0, 1, 1, 0, 0, 0, 1, 0]), (.giota, bl [0, 1, 1, 0, 1, 0]),
      (.diota, bl [0, 1, 0, 0, 0, 0, 1, 0])],
      (after (exec (encInstr p.1 .native) (with2 10 255))).bout = p.2
        ∧ (after (exec (encInstr p.1 .native) (with2 10 255))).res0 = BitVec.ofNat 32 p.2.length := by decide +kernel

/-- The codewords of 7, then `10`: DEC reads 7 and leaves `10`. -/
theorem test_dec_of_7 :
    ∀ p ∈ [
      (Codec.unary, bl [0, 0, 0, 0, 0, 0, 0, 1]), (.gamma, bl [0, 0, 1, 1, 1]), (.delta, bl [0, 1, 1, 1, 1]),
      (.fib, bl [0, 1, 0, 1, 1]), (.trib, bl [0, 1, 0, 1, 1, 1]), (.enb4, bl [0, 1, 0, 1, 1, 1, 1]),
      (.enb5, bl [0, 1, 0, 1, 1, 1, 1, 1]), (.enb6, bl [0, 1, 0, 1, 1, 1, 1, 1, 1]),
      (.enb7, bl [0, 1, 0, 1, 1, 1, 1, 1, 1, 1]), (.enb8, bl [0, 1, 0, 1, 1, 1, 1, 1, 1, 1, 1]),
      (.gfib, bl [0, 0, 1, 1, 1, 1]), (.dfib, bl [0, 1, 1, 1, 1, 1]), (.giota, bl [0, 1, 0, 1, 1]),
      (.diota, bl [0, 0, 1, 1, 1, 1])],
      (after (exec (decInstr p.1 .native) { with2 0 255 with bin := p.2 ++ [true, false] })).res0 = 7#32
        ∧ (after (exec (decInstr p.1 .native) { with2 0 255 with bin := p.2 ++ [true, false] })).bin = [true, false] := by
  decide +kernel

/-- The codewords of 4, 4: ENCSEQ writes them, DECSEQ reads them back. -/
theorem test_seq_of_4 :
    ∀ p ∈ [
      (Codec.unary, bl [0, 0, 0, 0, 1]), (.gamma, bl [0, 0, 1, 0, 0]), (.delta, bl [0, 1, 1, 0, 0]),
      (.fib, bl [1, 0, 1, 1]), (.trib, bl [1, 0, 1, 1, 1]), (.enb4, bl [1, 0, 1, 1, 1, 1]),
      (.enb5, bl [1, 0, 1, 1, 1, 1, 1]), (.enb6, bl [1, 0, 1, 1, 1, 1, 1, 1]),
      (.enb7, bl [1, 0, 1, 1, 1, 1, 1, 1, 1]), (.enb8, bl [1, 0, 1, 1, 1, 1, 1, 1, 1, 1]),
      (.gfib, bl [0, 0, 1, 1, 0, 0]), (.dfib, bl [0, 1, 1, 1, 0, 0]), (.giota, bl [0, 1, 0, 0, 0]),
      (.diota, bl [0, 0, 1, 1, 0, 0])],
      (after (exec (encseqInstr p.1 .native) (withSin [4, 4]))).bout = p.2 ++ p.2
        ∧ (after (exec (decseqInstr p.1 .native) { with2 0 255 with bin := p.2 ++ p.2 })).sout = [4, 4] := by
  decide +kernel

/-- Source example S1. -/
theorem test_encseq_unary_s1 :
    (after (exec (.encseqUnary .native) (withSin [3, 0, 2]))).bout = bl [0, 0, 0, 1, 1, 0, 0, 1] := by decide +kernel

/-- The signed and unsigned adaptations. -/
theorem test_enc_gamma_domains :
    (after (exec (.encGamma .unsigned) (with2 5 0))).bout = bl [0, 0, 1, 1, 0]
      ∧ (after (exec (.encGamma .signed) (with2 0xFFFFFFFD 0))).bout = bl [0, 0, 1, 1, 0] := by decide +kernel

/-- The largest operands: 2^32 as a gamma codeword of 65 bits. -/
theorem test_enc_gamma_largest :
    (after (exec (.encGamma .unsigned) (with2 0xFFFFFFFF 0))).res0 = 65#32
      ∧ (after (exec (.encGamma .signed) (with2 0x80000000 0))).res0 = 65#32 := by decide +kernel

theorem test_dec_gamma_signed :
    (after (exec (.decGamma .signed) (withBin [0, 0, 1, 0, 0]))).res0 = 0xFFFFFFFE#32 := by decide +kernel

/-- Domain, exhaustion, truncation and result-size errors. -/
theorem test_codec_errors :
    errOf (exec (.encGamma .native) (with2 0 0)) = (0x310, 0x30, 0)
      ∧ errOf (exec (.decGamma .native) (withBin [])) = (0x210, 0x12, 0)
      ∧ errOf (exec (.decGamma .native) (withBin [0, 0, 0, 1])) = (0x110, 0x10, 4)
      ∧ errOf (exec (.decGamma .native) { with2 0 0 with
          bin := List.replicate 32 false ++ true :: List.replicate 32 false }) = (0x110, 0x11, 0)
      ∧ errOf (exec (.decseqUnary .native) (withBin [0, 0, 0])) = (0x110, 0x10, 3)
      ∧ errOf (exec (.encseqUnary .native) (withSin [-1])) = (0x310, 0x30, 0xFFFFFFFF)
      ∧ errOf (exec (.decseqFib .native) (withBin [1, 1, 0])) = (0x110, 0x10, 1) := by decide +kernel

/-- The Iota bounds. -/
theorem test_iota_bounds :
    errOf (exec (.encGiota .native) (with2 1 2)) = (0x310, 0x31, 2)
      ∧ errOf (exec (.encGiota .native) (with2 4 4)) = (0x310, 0x30, 4)
      ∧ (after (exec (.encDiota .native) (with2 4 4))).bout = bl [1, 1, 0, 0]
      ∧ (after (exec (.encGiota .native) (with2 17 17))).bout = bl [1, 0, 0, 0, 0, 0, 1]
      ∧ errOf (exec (.decGiota .native) { with2 0 5 with bin := bl [1, 1] }) = (0x110, 0x13, 3) := by decide +kernel

/-! CTL, section 2.1. -/

theorem test_ctl_nop : (after (exec .ctlNop (withSin [1]))).sin = [1] := by decide

theorem test_ctl_flush :
    (after (exec (.ctlFlush 0x05#8) { withBin [1] with bout := [true], sin := [3], sout := [4] })).bin = []
      ∧ (after (exec (.ctlFlush 0x05#8) { withBin [1] with bout := [true], sin := [3], sout := [4] })).sin = []
      ∧ (after (exec (.ctlFlush 0x05#8) { withBin [1] with bout := [true], sin := [3], sout := [4] })).sout = [4] := by
  decide

theorem test_ctl_flush_bad_mask :
    errOf (step (State.reset.withFetchWord 32 0x1002)) = (0x510, 0x52, 0x1002) := by decide

theorem test_ctl_sreset :
    statusWord (after (exec .ctlSreset (after (exec (.decGamma .native) (withBin []))))).status = 0x12#32 := by
  decide +kernel

theorem test_ctl_cinv : (after (exec .ctlCinv (with2 0 0))).spl = Spline.reset := by decide

/-! Transforms, section 2.3. -/

theorem test_xf_delta :
    (after (exec .xfDeltae (withSin [5, 7, 7, 2]))).sout = [5, 2, 0, -5]
      ∧ (after (exec .xfDeltad (withSin [5, 2, 0, -5]))).sout = [5, 7, 7, 2]
      ∧ errOf (exec .xfDeltae (withSin [-1, 2147483647])) = (0x310, 0x62, 0x80000000) := by decide +kernel

theorem test_xf_zigzag :
    (after (exec .xfZze (withSin [0, -1, 1, 1073741823, -1073741824]))).sout = [0, 1, 2, 2147483646, 2147483647]
      ∧ (after (exec .xfZzd (withSin [0, 1, 2, 3, 2147483647]))).sout = [0, -1, 1, -2, -1073741824]
      ∧ errOf (exec .xfZzd (withSin [-1])) = (0x310, 0x30, 0xFFFFFFFF) := by decide +kernel

/-- Source example S4 and focus 2. -/
theorem test_xf_focused :
    (after (exec .xfFzze { with2 6 0 with sin := [0, 1, 2, 3, 4, 5, 6, 7, 11, 12, 13, 19] })).sout
        = [11, 9, 7, 5, 3, 1, 0, 2, 10, 12, 13, 19]
      ∧ (after (exec .xfFzzd { with2 2 0 with sin := [0, 1, 2, 3, 4, 5, 6, 7] })).sout = [2, 1, 3, 0, 4, 5, 6, 7] := by
  decide +kernel

theorem test_xf_tsume :
    (after (exec .xfTsume { with2 6 0 with sin := [2, 3, 1] })).bout = bl [0, 1, 0, 0, 1, 1, 1]
      ∧ (after (exec .xfTsume { with2 0 0 with sin := [0, 0] })).bout = []
      ∧ errOf (exec .xfTsume { with2 6 0 with sin := [4, 3] }) = (0x310, 0x32, 3) := by decide +kernel

theorem test_xf_tsumd :
    (after (exec .xfTsumd { with2 5 3 with bin := bl [1, 0, 1] })).sout = [5, 0, 0]
      ∧ errOf (exec .xfTsumd { with2 6 2 with bin := bl [0, 1, 0, 1, 1, 1] }) = (0x110, 0x14, 7) := by decide +kernel

/-- Also 60_exceptions.md R321, rows 0x11, 0x62 and 0x33: the codeword of 2^31, the item 2^31 from a codeword of 2^29, and
HB0 = 32. -/
theorem test_xf_haven_gamma :
    (after (exec .xfHaveneGamma (withSin [5, 6]))).bout = bl [0, 0, 1, 1, 0, 0, 1, 0, 1, 0]
      ∧ (after (exec .xfHavendGamma (withBin [0, 0, 1, 1, 0, 0, 1, 0, 1, 0]))).sout = [5, 6]
      ∧ errOf (exec .xfHavendGamma { with2 0 0 with bin := encGamma (2 ^ 31 + 1) }) = (0x110, 0x11, 0x80000000)
      ∧ errOf (exec .xfHavendGamma { with2 0 0 with
          cfgHaven := 2#32
          bin := encGamma (2 ^ 29 + 1) ++ [false, false] }) = (0x310, 0x62, 0x80000000)
      ∧ errOf (exec .xfHavendGamma { with2 0 0 with cfgHaven := 32#32 }) = (0x310, 0x33, 32) := by decide +kernel

/-- The item 5, 6 with HB0 = 2 and BFN = 0: each codec writes Enc(AdaptIn(1, 1)) and two raw bits, and reads them
back. -/
theorem test_xf_haven_all :
    ∀ c ∈ [Codec.unary, .gamma, .delta, .fib, .trib, .enb4, .enb5, .enb6, .enb7, .enb8, .gfib, .dfib, .giota, .diota],
      (after (exec (haveneInstr c) { withSin [5, 6] with cfgHaven := 2#32 })).bout
          = encCode c 255 (if c = .unary then 1 else 2) ++ [false, true] ++ encCode c 255 (if c = .unary then 1 else 2)
            ++ [true, false]
        ∧ (after (exec (havendInstr c) { with2 0 255 with
            cfgHaven := 2#32
            bin := encCode c 255 (if c = .unary then 1 else 2) ++ [true, true] })).sout = [7] := by decide +kernel

/-- Source example S6. -/
theorem test_xf_ruler :
    (after (exec .xfRulere (withSin [10, 13, 11, 14, 12]))).sout = [10, 12, 0, 6, 4]
      ∧ (after (exec .xfRulerd (withSin [10, 12, 0, 6, 4]))).sout = [10, 13, 11, 14, 12]
      ∧ rulerOrder 8 = [0, 7, 3, 1, 5, 2, 4, 6] := by decide +kernel

theorem test_xf_palette :
    (after (exec .xfPale (withSin [7, 3, 7, 9]))).sout = [3, 3, 4, 2, 1, 0, 1, 2]
      ∧ (after (exec .xfPald (withSin [3, 3, 4, 2, 1, 0, 1, 2]))).sout = [7, 3, 7, 9]
      ∧ errOf (exec .xfPald (withSin [1, 3, 1])) = (0x110, 0x15, 1) := by decide +kernel

theorem test_xf_floor :
    (after (exec .xfFlre (withSin [7, 3, 7, 9]))).sout = [3, 4, 0, 4, 6]
      ∧ (after (exec .xfFlrd (withSin [3, 4, 0, 4, 6]))).sout = [7, 3, 7, 9] := by decide +kernel

theorem test_xf_median :
    (after (exec .xfMede (withSin [7, 3, 7, 9]))).sout = [7, 0, 7, 0, 4]
      ∧ (after (exec .xfMedd (withSin [7, 0, 7, 0, 4]))).sout = [7, 3, 7, 9] := by decide +kernel

/-! Catalogue, section 2.4. -/

/-- A catalogue of four columns with V = 4. -/
def cat4 (a0 a1 : Nat) : State := { with2 a0 a1 with cat := freshCatalogue 4 4 }

/-- The same after the rows 3 and 7: LIMITS(1) = (0, 3). -/
def cat4b (a0 a1 : Nat) : State := { with2 a0 a1 with
  cat := setColumn (freshCatalogue 4 4) 1 { lo := 0, hi := 3, rsv := false } }

/-- The same after row 8: column 1 is critical. -/
def cat4c (a0 a1 : Nat) : State := { with2 a0 a1 with
  cat := setColumn (freshCatalogue 4 4) 1 { lo := 1, hi := 3, rsv := false } }

/-- The same after row 11: column 1 is resolved to 2. -/
def cat4d (a0 a1 : Nat) : State := { with2 a0 a1 with
  cat := setColumn (freshCatalogue 4 4) 1 { lo := 1, hi := 3, rsv := true } }

theorem test_cat_init :
    (after (exec .catInit { with2 0 0 with cfgN := 4#32, cfgV := 4#32 })).cat = freshCatalogue 4 4
      ∧ errOf (exec .catInit { with2 0 0 with cfgN := 4#32, cfgV := 1#32 }) = (0x310, 0x01, 1) := by decide +kernel

theorem test_cat_count :
    (after (exec .catCount (cat4 2 0))).res0 = 4#32 ∧ errOf (exec .catCount (cat4 4 0)) = (0x310, 0x02, 4) := by
  decide +kernel

theorem test_cat_status :
    (after (exec .catStatus (cat4b 1 0))).res0 = 1#32
      ∧ (after (exec .catStatus (cat4c 1 2))).res1 = 1#32 := by decide +kernel

theorem test_cat_elim :
    (after (exec .catElim (cat4b 1 1))).res0 = 1#32
      ∧ (after (exec .catElim (cat4b 1 1))).cat = (cat4c 0 0).cat := by decide +kernel

theorem test_cat_elim_errors :
    errOf (exec .catElim (cat4 1 2)) = (0x410, 0x21, 2) ∧ errOf (exec .catElim (cat4c 1 2)) = (0x410, 0x22, 1)
      ∧ errOf (exec .catElim (with2 0 0)) = (0x410, 0x20, 0) := by decide +kernel

theorem test_cat_elimcol :
    (after (exec .catElimcol (cat4c 1 2))).cat = (cat4d 0 0).cat
      ∧ errOf (exec .catElimcol (cat4d 1 2)) = (0x410, 0x23, 1)
      ∧ errOf (exec .catElimcol (cat4d 2 4)) = (0x310, 0x03, 4) := by decide +kernel

theorem test_cat_extreme :
    (after (exec .catExtreme (cat4d 3 0))).sout = [0, 0, 0, 3, 2, 0, 2, 3, 3, 0, 3, 3]
      ∧ (after (exec .catExtreme (cat4d 1 0))).sout = [0, 0, 2, 0, 3, 0] := by decide +kernel

theorem test_cat_clamp :
    (after (exec .catClamp (cat4 2 0xFFFFFFFB))).res0 = 0#32 ∧ (after (exec .catClamp (cat4 2 7))).res0 = 3#32
      ∧ statusWord (after (exec .catClamp (cat4 2 1))).status = 6#32 := by decide +kernel

theorem test_cat_limits :
    (after (exec .catLimits (cat4d 1 0))).res1 = 0x80000003#32
      ∧ (after (exec .catLimits (cat4 0 0))).res0 = 0xFFFFFFFF#32 := by decide +kernel

theorem test_cat_impmin :
    (columnAt (after (exec .catImpmin { with2 4 0 with cat := freshCatalogue 2 8 })).cat 1).lo = 3
      ∧ statusWord (after (exec .catImpmin { with2 5 0 with cat := freshCatalogue 2 8 })).status = 0x410#32 := by
  decide +kernel

theorem test_cat_impmax :
    (columnAt (after (exec .catImpmax { with2 11 0 with cat := freshCatalogue 2 16 })).cat 1).hi = 12 := by
  decide +kernel

/-! Spline, section 2.5. -/

/-- A Spline with N = 5, V = 16, endpoint values v0 and v1, no caches. -/
def spl5 (method : Nat) (v0 v1 : Int) : Spline := freshSpline 5 16 (BitVec.ofNat 32 method) 0#32 v0 v1

/-- The bones of the Hermite vector: 0:0, 1:10, 2:15, 4:15, 5:15. -/
def hermiteSpline (method : Nat) : Spline :=
  { freshSpline 6 16 (BitVec.ofNat 32 method) 0#32 0 15 with
    bones := [some 0, some 10, some 15, none, some 15, some 15] }

theorem test_spl_init :
    (after (exec .splInit { with2 0 3 with arg2 := 16#32, cfgN := 5#32, cfgV := 16#32, cfgMethod := 0x00420922#32 })).spl
        = freshSpline 5 16 0x00420922#32 0#32 8 8
      ∧ errOf (exec .splInit { with2 0 3 with
          arg2 := 16#32, cfgN := 5#32, cfgV := 16#32, cfgMethod := 0x00C20922#32 }) = (0x310, 0x03, 16) := by
  decide +kernel

theorem test_spl_set :
    boneAt (after (exec .splSet { with2 2 10 with spl := spl5 0x20922 0 8 })).spl.bones 2 = some 10
      ∧ errOf (exec .splSet { with2 4 9 with spl := spl5 0x20922 0 8 }) = (0x410, 0x26, 4) := by decide +kernel

theorem test_spl_predall :
    ∀ p ∈ [(0xC20920, [0, 0, 0, 0, 8]), (0xC20921, [0, 0, 0, 8, 8]), (0xC20922, [0, 2, 4, 6, 8]),
      (0xC20923, [0, 1, 4, 7, 8]), (0xC20924, [0, 2, 4, 6, 8]), (0xC20925, [0, 1, 4, 7, 8])],
      (after (exec .splPredall { with2 0 0 with spl := spl5 p.1 0 8 })).sout = p.2 := by decide +kernel

/-- Exact halves: Round goes to the even integer; the sinusoidal value is exact at thirds and the half. -/
theorem test_spl_exact_points :
    (List.range 5).map (purePredict (spl5 0xC20212 1 4)) = [1, 2, 2, 3, 4]
      ∧ (List.range 7).map (purePredict (freshSpline 7 16 0xC20213#32 0#32 0 12)) = [0, 1, 3, 6, 9, 11, 12] := by
  decide +kernel

theorem test_spl_pred :
    ∀ p ∈ [(0xC20214, 16), (0xC20924, 15), (0xC20824, 15), (0xC20004, 16), (0xC20215, 14), (0xC10215, 14)],
      (after (exec .splPred { with2 3 0 with spl := hermiteSpline p.1 })).res0 = BitVec.ofNat 32 p.2 := by
  decide +kernel

theorem test_spl_surr :
    (after (exec .splSurr { with2 2 0 with spl := spl5 0xC20922 0 8 })).sout = [-1, -1, 0, 0, 4, 8, -1, -1]
      ∧ (after (exec .splSurr { with2 0 0 with spl := spl5 0xC20922 0 8 })).sout = [-1, -1, -1, -1, 4, 8, -1, -1] := by
  decide +kernel

theorem test_spl_bone :
    (after (exec .splBone { with2 0 0 with spl := spl5 0x20922 0 0 })).res1 = 1#32
      ∧ (after (exec .splBone { with2 1 0 with spl := spl5 0x20922 0 0 })).res0 = 0xFFFFFFFF#32 := by decide +kernel

/-! CER, section 2.6. -/

/-- CFG_N, CFG_V and SIN of a block, METHOD linear, gamma. -/
def blockOf (v : Nat) (xs : List Int) : State :=
  { withSin xs with arg1 := 0#32, cfgN := BitVec.ofNat 32 xs.length, cfgV := BitVec.ofNat 32 v }

/-- CFG_N = CFG_V = 4, endpoints 0 and 3, mode word 1 and the press values in SIN. -/
def decodeOf (press : List Int) : State :=
  { withSin press with arg0 := 1#32, arg1 := 0#32, arg2 := 3#32, cfgN := 4#32, cfgV := 4#32 }

/-- Also 30_encoding.md R97: a run codec above 13 is refused, and the CER stays as it was. -/
theorem test_cer_encblk :
    (after (exec .cerEncblk (blockOf 4 [0, 1, 3, 2, 0]))).bout
        = bl [0, 0, 1, 0, 1, 0, 0, 1, 0, 0, 0, 0, 1, 0, 0, 0, 0, 0, 0, 1, 0, 0, 1, 1, 0, 1, 1]
      ∧ (after (exec .cerEncblk (blockOf 4 [0, 1, 3, 2, 0]))).cer.press = [1, 2, 2]
      ∧ (after (exec .cerEncblk { blockOf 4 [0, 1] with cfgCodec := 14#32 })).errSub = 0x55#8
      ∧ (after (exec .cerEncblk { blockOf 4 [0, 1] with cfgCodec := 14#32 })).cer = Cer.reset := by decide +kernel

theorem test_cer_encblk_methods :
    ∀ p ∈ [(0, [8, 20, 3, 1, 1, 10]), (1, [2, 7, 8, 1, 5, 5, 0]), (2, [0, 19, 0, 6, 13, 6, 0]),
      (3, [0, 16, 12, 4, 9, 7, 0]), (4, [0, 20, 2, 6, 9, 6, 0]), (5, [0, 15, 7, 9, 0, 13, 0])],
      (after (exec .cerEncblk { blockOf 16 [5, 9, 2, 14, 7, 7, 0, 15] with
        cfgMethod := BitVec.ofNat 32 (0x20920 + p.1) })).cer.press = p.2 := by decide +kernel

theorem test_cer_decblk :
    (after (exec .cerDecblk (withBin [0, 0, 1, 0, 0, 0, 0, 1, 0, 0, 0, 0, 1, 0, 0, 0, 1, 1, 1, 1, 1, 1, 0]))).sout
        = [0, 3, 0, 3]
      ∧ (after (exec .cerDecblk (withBin [0, 0, 1, 0, 0, 0, 0, 1, 0, 0, 0, 0, 1, 0, 0, 0, 1, 1, 1, 1, 1, 1, 0]))).bin
        = bl [1, 0] := by decide +kernel

theorem test_cer_decblk_errors :
    errOf (exec .cerDecblk (withBin [0, 0, 1, 0, 0, 0, 0, 1, 0, 0, 0, 1, 1, 0])) = (0x110, 0x18, 6)
      ∧ errOf (exec .cerDecblk (withBin [1, 0, 0, 1, 0, 0])) = (0x110, 0x1A, 1)
      ∧ errOf (exec .cerDecblk (withBin [0, 0, 1, 0, 0, 0, 1, 1, 0, 0, 1, 0, 1, 1, 0, 0])) = (0x110, 0x1B, 3)
      ∧ errOf (exec .cerDecblk (withBin [0, 0, 1, 0, 0, 0, 0, 1, 0, 0, 0, 0, 1, 0, 0, 0, 1, 1, 1, 1])) = (0x110, 0x16, 2) := by
  decide +kernel

theorem test_cer_init :
    (after (exec .cerInit (blockOf 4 [0, 1, 2, 3]))).cer.rank.length = 4
      ∧ (after (exec .cerInit (blockOf 4 [0, 1, 2, 3]))).spl.bones = [some 0, none, none, some 3]
      ∧ errOf (exec .cerInit (with2 4 0)) = (0x510, 0x56, 4) := by decide +kernel

theorem test_cer_block_decode :
    (after (exec .cerBlock (after (exec .cerInit (decodeOf [6]))))).cer.plain = [some 0, some 1, some 2, some 3]
      ∧ (after (exec .cerBlock (after (exec .cerInit (decodeOf [0, 0, 0]))))).cer.plain
          = [some 0, some 3, some 0, some 3] := by decide +kernel

theorem test_cer_block_errors :
    errOf (exec .cerBlock (after (exec .cerInit (decodeOf [0, 0])))) = (0x110, 0x16, 2)
      ∧ errOf (exec .cerBlock (after (exec .cerInit (decodeOf [0, 0, 1])))) = (0x110, 0x19, 0)
      ∧ errOf (exec .cerBlock (after (exec .cerInit (decodeOf [-2])))) = (0x110, 0x17, 0xFFFFFFFE) := by decide +kernel

theorem test_cer_run :
    (after (exec .cerRun (after (exec .cerInit (blockOf 4 [0, 1, 3, 2, 0]))))).cer.press = [1]
      ∧ errOf (exec .cerRun (with2 0 0)) = (0x410, 0x43, 0)
      ∧ (after (exec .cerRun (with2 0 0))).cer = { Cer.reset with phase := .failed } := by decide +kernel

theorem test_cer_fill :
    (after (exec .cerFill (after (exec .cerBlock (after (exec .cerInit (decodeOf [0, 0]))))))).cer.plain
        = [some 0, some 3, some 0, some 3]
      ∧ (after (exec .cerFill (after (exec .cerBlock (after (exec .cerInit (decodeOf []))))))).cer.plain
        = [some 0, some 1, some 2, some 3] := by decide +kernel

theorem test_cer_press :
    (after (exec .cerPress (after (exec .cerBlock (after (exec .cerInit (decodeOf [6]))))))).sout = [6] := by
  decide +kernel

theorem test_cer_plain :
    (after (exec .cerPlain (after (exec .cerBlock (after (exec .cerInit (decodeOf []))))))).sout = [0, -1, -1, 3] := by
  decide +kernel

theorem test_cer_score :
    (after (exec .cerScore { after (exec .cerInit (blockOf 4 [0, 1, 2, 3])) with arg0 := 1#32, arg1 := 3#32 })).res0
        = 2#32 := by decide +kernel

/-! The register window (20_memory.md R63..R67, R75, 70_reset_and_hazards.md R360). -/

theorem test_port_push_pop :
    (hostAccess (.write 0x60#8 4 3#32) State.reset).bin = [true]
      ∧ (hostAccess (.write 0x70#8 4 0xFFFFFFFF#32) State.reset).sin = [-1]
      ∧ (hostAccess (.read 0x78#8 4) { State.reset with sout := [-5, 2] }).rdata = 0xFFFFFFFB#32
      ∧ (hostAccess (.read 0x68#8 4) State.reset).status.porterr = true := by decide

theorem test_port_misaligned :
    (hostAccess (.write 0x71#8 4 1#32) State.reset).sin = []
      ∧ (hostAccess (.write 0x70#8 2 1#32) State.reset).status.porterr = true := by decide

theorem test_port_status_w1c :
    statusWord (hostAccess (.write 0x04#8 4 0x10#32) (after (exec (.encGamma .native) (with2 0 0)))).status = 0x300#32 := by
  decide +kernel

theorem test_port_busy_write :
    statusWord (after (step { with2 0 0 with
      host := [{ early := true, access := .write 0x20#8 4 7#32 }] })).status = 0x9#32 := by decide

/-! Witnesses: for each statement with hypotheses, a concrete state and operands that meet all of them; where it has
several clauses, one for each. -/

/-- The same machine when its next command has just started. -/
def again (s : State) : State := latchWord 0#32 s

/-- An encoding block of three samples, ACTIVE, its next command just started: column 1 is unresolved. -/
def act3 : State := again (after (exec .cerInit (blockOf 4 [0, 1, 2])))

/-- A decoding block of three samples with endpoints 0 and 2, PRESS from SIN, the first press value 0. -/
def act3d : State :=
  again (after (exec .cerInit { withSin [0, 7] with arg0 := 1#32, arg1 := 0#32, arg2 := 2#32, cfgN := 3#32, cfgV := 4#32 }))

/-- The Spline of both blocks. -/
def spl3 : Spline := freshSpline 3 4 0x00020922#32 0#32 0 2

/-- A check that a bone array is sound. -/
def bonesCheck (n v : Nat) (bones : List (Option Int)) : Bool :=
  bones.length == n && (boneAt bones 0).isSome && (boneAt bones (n - 1)).isSome
    && bones.all (fun b => b.all (fun y => decide (0 ≤ y ∧ y < (v : Int))))

theorem bonesOk_of_check {n v : Nat} {bones : List (Option Int)} (h : bonesCheck n v bones = true) :
    BonesOk n v bones := by
  simp only [bonesCheck, Bool.and_eq_true, beq_iff_eq, List.all_eq_true] at h
  obtain ⟨⟨⟨h1, h2⟩, h3⟩, h4⟩ := h
  refine ⟨h1, Option.isSome_iff_ne_none.mp h2, Option.isSome_iff_ne_none.mp h3, fun x y hxy => ?_⟩
  have hm : some y ∈ bones := by
    unfold boneAt at hxy
    rw [List.getD_eq_getElem?_getD] at hxy
    cases hb : bones[x]? with
    | none => simp [hb] at hxy
    | some b =>
      obtain rfl : b = some y := by simpa [hb] using hxy
      exact List.mem_of_getElem? hb
  simpa using h4 _ hm

/-- The Splines SPL.INIT makes with no location cache are sound. -/
theorem splineOk_of_check {spl : Spline} (hg : GeometryOk spl.n spl.v) (hm : MethodOk spl.cfg)
    (hb : bonesCheck spl.n spl.v spl.bones = true) (hl : spl.loc = []) (hd : spl.dist = []) (hp : spl.locPol = .none) :
    SplineOk spl := fun _ => ⟨hg, hm, bonesOk_of_check hb, by simp [hl, hp], by simp [hd, hp]⟩

/-- A Spline with an empty value cache has only right predictions in it. -/
theorem cacheValuesOk_nil {spl : Spline} (h : spl.vc = []) : CacheValuesOk spl := fun _ e he => by simp [h] at he

theorem spl5_ok (m : Nat) (hm : MethodOk (BitVec.ofNat 32 m)) : SplineOk (spl5 m 0 8) := by
  have hg : GeometryOk 5 16 := by unfold GeometryOk; decide
  have hb : bonesCheck 5 16 [some 0, none, none, none, some 8] = true := by decide +kernel
  exact splineOk_of_check hg hm hb rfl rfl rfl

theorem methodOk_reset : MethodOk 0x00020922#32 := by unfold MethodOk; decide

theorem spl3_ok : SplineOk spl3 :=
  splineOk_of_check (by unfold GeometryOk; decide +kernel) methodOk_reset (by decide +kernel) (by decide +kernel)
    (by decide +kernel) (by decide +kernel)

/-- Column 1 unresolved between the endpoint columns 0 and 2. -/
def cat3 : Catalogue := blockCatalogue 3 4 0 2

/-- The rankings of the fresh blocks: the frontier cells 3 and 0 of column 1 around the prediction 1. -/
def rank3 : List RankEntry := [{ score := 2, x := 1, y := 3 }, { score := 3, x := 1, y := 0 }]

/-- The parts of the invariant that are about these structures alone, decided at once. -/
def StructuresSound : Prop :=
  CatOk cat3 ∧ CacheFormOk spl3 ∧ RankSorted rank3
    ∧ (∀ e ∈ rank3, ∀ f ∈ rank3, e.x = f.x → e.y = f.y → e = f)
    ∧ spl3.valid = true ∧ spl3.n = 3 ∧ spl3.v = 4 ∧ cat3.valid = true ∧ cat3.n = 3 ∧ cat3.v = 4
    ∧ spl3.bones = [some 0, none, some 2]
    ∧ unresolvedCount cat3 = 1 ∧ remainingElims cat3 = 3
    ∧ cat3.cols = [resolvedColumn 0, freshColumn 4, resolvedColumn 2]

theorem structuresSound : StructuresSound := by
  unfold StructuresSound CatOk ColumnOk GeometryOk CacheFormOk RankSorted
  decide +kernel

/-- PLAIN of a three-sample block in each mode. -/
def plain3 : Mode → List (Option Int)
  | .encode => [some 0, some 1, some 2]
  | .decode => [some 0, none, some 2]

/-- A state is an ACTIVE block of these structures with no run yet: what `active_inv` asks, in one check. -/
def freshBlock (s : State) : Bool :=
  s.spl == spl3 && s.cat == cat3
    && s.cer == { s.cer with
      phase := .active, n := 3, v := 4, rank := rank3, press := [], runIndex := 0, elims := 0, hits := 0, absorbs := 0,
      plain := plain3 s.cer.mode }

theorem unresolved_cat3 (x : Nat) : Unresolved cat3 x ↔ x = 1 := by
  obtain ⟨-, -, -, -, -, -, -, -, hn, -, -, -, -, hc⟩ := structuresSound
  unfold Unresolved columnAt
  rw [hn, hc]
  constructor
  · rintro ⟨h, hr⟩
    interval_cases x <;> first | rfl | cases hr
  · rintro rfl
    exact ⟨by omega, rfl⟩

theorem ranked_rank3 (x : Nat) (y : Int) : Ranked rank3 x y ↔ x = 1 ∧ (y = 0 ∨ y = 3) := by
  simp only [Ranked, rank3, List.mem_cons, List.not_mem_nil, or_false, exists_eq_or_imp, exists_eq_left]
  omega

/-- A fresh ACTIVE block satisfies the block's invariant. -/
theorem active_inv {s : State} (h : freshBlock s = true) : BlockInv s := by
  obtain ⟨hcat, hform, hsort, hone, hsv, hsn, hsV, hcv, hcn, hcV, hb, hu, he, hcols⟩ := structuresSound
  simp only [freshBlock, Bool.and_eq_true, beq_iff_eq] at h
  obtain ⟨⟨hs, hc⟩, hr⟩ := h
  have hcol : columnAt cat3 1 = freshColumn 4 := by simp [columnAt, hcols]
  have hrank : s.cer.rank = rank3 := by rw [hr]
  have hn : s.cer.n = 3 := by rw [hr]
  have hplain : s.cer.plain = plain3 s.cer.mode := congrArg Cer.plain hr
  refine ⟨hc ▸ hcat, hs ▸ spl3_ok, hs ▸ hform, hrank ▸ hsort, fun _ => ?_, fun hd => ?_⟩
  · refine ⟨hs ▸ hsv, hc ▸ hcv, by rw [hs, hn, hsn], by rw [hc, hn, hcn], by rw [hs, hr]; exact hsV,
      by rw [hc, hr]; exact hcV, ⟨fun x y => ?_, hrank ▸ hone, fun x hx => ?_⟩, ⟨?_, fun x hx => ?_⟩, ?_, by rw [hr]⟩
    · rw [hrank, hc, unresolved_cat3, ranked_rank3]
      refine and_congr_right fun hx => ?_
      subst hx
      simp [hcol, freshColumn]
    · rw [hc, unresolved_cat3] at hx
      subst hx
      simp [hc, hcol, freshColumn, unknownCount]
    · rw [hplain, hn]
      cases s.cer.mode <;> rfl
    · rw [hn] at hx
      rw [hplain, hc, hs]
      cases hm : s.cer.mode <;> interval_cases x <;>
        simp [plain3, plainAt, boneAt, columnAt, hcols, hb, resolvedColumn, freshColumn, isUnknown]
    · unfold CountersOk
      rw [hr, hc]
      exact ⟨rfl, rfl, by simp [hu], by simp [he]⟩
  · rw [hr] at hd
    cases hd

theorem act3_inv : BlockInv act3 := active_inv (by decide +kernel)

theorem act3d_inv : BlockInv act3d := active_inv (by decide +kernel)

theorem witness_DecodeEncodeAgree :
    (Instr.ctlFlush 0x0F#8).wf = true ∧ decode 0x00030110#32 ≠ .ok (.encGamma .signed)
      ∧ decode 0x00020110#32 = .ok (.encGamma .signed) := by decide

/-- One word for each outcome, each at a boundary of its check. -/
theorem witness_IllegalWordReported :
    (∀ w ∈ [0x00040000, 0x00000004, 0x000000FF, 0x00000122, 0x00010020, 0x00000E10, 0x00030110, 0x00020D13],
      (State.reset.withFetchWord 32 w).seq = .busy ∧ Quiet (State.reset.withFetchWord 32 w)
        ∧ (State.reset.withFetchWord 32 w).cur = BitVec.ofNat 32 w)
      ∧ 0x00040000 / 2 ^ 18 ≠ 0 ∧ reservedOpc 0x04 = true ∧ reservedOpc 0xFF = true ∧ usesCid 0x22 = false
      ∧ usesDom 0x20 = false ∧ usesCodec 0x10 = true ∧ usesDom 0x10 = true := by
  have cur : ∀ w ∈ [0x00040000, 0x00000004, 0x000000FF, 0x00000122, 0x00010020, 0x00000E10, 0x00030110, 0x00020D13],
      (State.reset.withFetchWord 32 w).cur = BitVec.ofNat 32 w := by decide
  exact ⟨fun w hw => ⟨rfl, (by intro ev hev; cases hev), cur w hw⟩, by decide⟩

/-- With an access to come that waits. -/
theorem witness_StepRunsCommand :
    let s := (with2 0 0 : State)
    let t := { s with host := [{ early := false, access := .reset }] }
    t.seq = .busy ∧ Quiet t ∧ decode t.cur = .ok .ctlNop := by
  refine ⟨rfl, ?_, by decide⟩
  intro ev hev
  obtain rfl : { early := false, access := .reset } = ev := by simpa [with2] using hev
  rfl

theorem witness_CommandStart :
    State.reset.seq = .idle
      ∧ ({ State.reset with host := [{ early := true, access := .write 0x00#8 4 0x110#32 }] } : State).host
          = [{ early := true, access := .write 0x00#8 4 0x110#32 }]
      ∧ (Instr.ctlFlush 0x0F#8).wf = true := by decide

/-- While IDLE, and early while a command runs. -/
theorem witness_ResetsRestoreReset :
    ActsNext .reset [] { State.reset with host := [{ early := false, access := .reset }] }
      ∧ ActsNext .reset [] { with2 0 0 with host := [{ early := true, access := .reset }] } :=
  ⟨⟨false, rfl, .inl rfl⟩, ⟨true, rfl, .inr rfl⟩⟩

theorem witness_ControlCommandEffects :
    (0x0F#8).toNat < 16 ∧ 16 ≤ (0x10#8).toNat ∧ (with2 0 0).spl.valid = false
      ∧ ({ with2 0 0 with spl := spl3 } : State).spl.valid = true := by decide +kernel

theorem witness_EveryCommandEnds : Started (with2 0 0) := by unfold Started; decide

/-- A command refused before it changes anything, and a decoding block that fails in its third run. -/
theorem witness_ErrorRestoresState :
    (Started (withSin [-1]) ∧ exec .xfZzd (withSin [-1]) = .next (after (exec .xfZzd (withSin [-1])))
        ∧ (after (exec .xfZzd (withSin [-1]))).status.err ≠ none)
      ∧ (Started (again (after (exec .cerInit (decodeOf [0, 0]))))
        ∧ (exec .cerBlock (again (after (exec .cerInit (decodeOf [0, 0])))))
            = .next (after (exec .cerBlock (again (after (exec .cerInit (decodeOf [0, 0]))))))
        ∧ (after (exec .cerBlock (again (after (exec .cerInit (decodeOf [0, 0])))))).status.err ≠ none
        ∧ (after (exec .cerBlock (again (after (exec .cerInit (decodeOf [0, 0])))))).cer
            ≠ (again (after (exec .cerInit (decodeOf [0, 0])))).cer) := by
  unfold Started
  refine ⟨⟨by decide, eq_after (by decide +kernel), by decide +kernel⟩, by decide +kernel, eq_after (by decide +kernel),
    by decide +kernel, by decide +kernel⟩

theorem witness_HostRegistersKept :
    exec .ctlNop (with2 1 2) = .next (after (exec .ctlNop (with2 1 2))) := eq_after (by decide)

theorem witness_OnlyClampSignalsNoChange :
    Started (cat4 2 1) ∧ exec .catClamp (cat4 2 1) = .next (after (exec .catClamp (cat4 2 1)))
      ∧ (after (exec .catClamp (cat4 2 1))).status.nochg = true := by
  unfold Started
  exact ⟨by decide +kernel, eq_after (by decide +kernel), by decide +kernel⟩

/-- A command that changes the catalogue, one that changes the bones, one that changes the CER. -/
theorem witness_StructureWriters :
    (after (exec .catElim (cat4 1 0))).cat ≠ (cat4 1 0).cat
      ∧ (after (exec .splSet { with2 2 10 with spl := spl5 0x20922 0 8 })).spl.bones ≠ (spl5 0x20922 0 8).bones
      ∧ (after (exec .cerInit (decodeOf []))).cer ≠ (decodeOf []).cer
      ∧ exec .catElim (cat4 1 0) = .next (after (exec .catElim (cat4 1 0))) :=
  ⟨by decide +kernel, by decide +kernel, by decide +kernel, eq_after (by decide +kernel)⟩

/-- An ACTIVE state with an initialised Spline, and the reset state. -/
theorem witness_PhaseAndValidRefusals :
    act3.cer.phase = .active ∧ act3.spl.valid = true ∧ State.reset.cer.phase = .idle
      ∧ State.reset.cat.valid = false ∧ State.reset.spl.valid = false := by decide +kernel

/-- Also a reserved offset, a misaligned one and a write-only port, which are no pops. -/
theorem witness_ReadOnlyRegisterReads :
    State.reset.seq = .idle ∧ ∀ off ∈ [0x60#8, 0x70#8, 0xFC#8, 0x69#8], off ≠ 0x68#8 ∧ off ≠ 0x78#8 := by decide

/-- Room for exactly one more element in each input FIFO, and none. -/
theorem witness_StreamPortAccess :
    let s := { State.reset with bin := List.replicate (2 ^ 20 - 1) true, sin := List.replicate 8191 7 }
    let t := { State.reset with bin := List.replicate (2 ^ 20) true, sin := List.replicate 8192 7 }
    s.seq = .idle ∧ t.seq = .idle ∧ s.bin.length < 2 ^ 20 ∧ ¬t.bin.length < 2 ^ 20 ∧ s.sin.length < 8192
      ∧ ¬t.sin.length < 8192 := by
  simp only [List.length_replicate]
  exact ⟨rfl, rfl, by decide, by decide, by decide, by decide⟩

/-- A misaligned word, a halfword, a doubleword; and reserved offsets at the ends of each stretch that R61 leaves out. -/
theorem witness_WindowEdges :
    ¬(4 = 4 ∧ (0x01#8).toNat % 4 = 0) ∧ ¬(2 = 4 ∧ (0x04#8).toNat % 4 = 0) ∧ ¬(8 = 4 ∧ (0x60#8).toNat % 4 = 0)
      ∧ ∀ off ∈ [0x18#8, 0x1C#8, 0x38#8, 0x3C#8, 0x5C#8, 0x98#8, 0xA4#8, 0xFC#8], off.toNat % 4 = 0
        ∧ (off.toNat ∈ [0x18, 0x1C, 0x38, 0x3C, 0x5C] ∨ 0x98 ≤ off.toNat) := by decide

theorem witness_RegisterReadBack : State.reset.seq = .idle := rfl

/-- A running command with each kind of early access. -/
theorem witness_BusyHazard :
    (with2 0 0).seq = .busy
      ∧ ({ with2 0 0 with host := [{ early := true, access := .write 0x00#8 4 1#32 }] } : State).host
          = [{ early := true, access := .write 0x00#8 4 1#32 }]
      ∧ ({ with2 0 0 with host := [{ early := true, access := .read 0x78#8 4 }] } : State).host
          = [{ early := true, access := .read 0x78#8 4 }] := by decide

theorem witness_RegisterAndStreamInvariant :
    StatusOk (with2 0 0) ∧ ReservedZero (with2 0 0) ∧ StreamsOk (withSin [-2147483648, 2147483647])
      ∧ step (with2 0 0) = .next (after (step (with2 0 0)))
      ∧ step (withSin [-2147483648, 2147483647]) = .next (after (step (withSin [-2147483648, 2147483647]))) := by
  unfold StatusOk ReservedZero StreamsOk inElemRange
  exact ⟨by decide, by decide, by decide +kernel, eq_after (by decide +kernel), eq_after (by decide +kernel)⟩

/-- An ACTIVE block that is about to run CER.RUN. -/
theorem witness_BlockInvariantKept :
    BlockInv { act3 with cur := 0x61#32 }
      ∧ step { act3 with cur := 0x61#32 } = .next (after (step { act3 with cur := 0x61#32 })) :=
  ⟨active_inv (by decide +kernel), eq_after (by decide +kernel)⟩

/-- What SPL.PRED 1 caches in a Spline of three cells with bones 0 and 1. -/
def cachedEntry : VcEntry where
  key := surroundKey (freshSpline 3 2 0x00020922#32 4#32 0 1) 1
  x := 1
  value := purePredict (freshSpline 3 2 0x00020922#32 4#32 0 1) 1

/-- A Spline of three cells with one cached prediction, at x = 1 between bones 0 and 1. -/
def cachedSpline : Spline := { freshSpline 3 2 0x00020922#32 4#32 0 1 with vc := [cachedEntry] }

/-- The prediction is right at every bone array in which x = 1 has that key. -/
theorem witness_CachedPredictionsStayRight :
    BlockInv { with2 0 0 with spl := cachedSpline, cur := 0x52#32 } ∧ CacheValuesOk cachedSpline
      ∧ step { with2 0 0 with spl := cachedSpline, cur := 0x52#32 }
          = .next (after (step { with2 0 0 with spl := cachedSpline, cur := 0x52#32 })) := by
  refine ⟨⟨?_, ?_, ?_, ?_, ?_, ?_⟩, ?_, eq_after (by decide +kernel)⟩
  · unfold CatOk ColumnOk GeometryOk
    decide
  · exact splineOk_of_check (by unfold GeometryOk; decide +kernel) methodOk_reset (by decide +kernel) (by decide +kernel)
      (by decide +kernel) (by decide +kernel)
  · unfold CacheFormOk
    decide +kernel
  · exact List.Pairwise.nil
  · intro h
    cases h
  · intro h
    cases h
  · intro _ e he bones _ hb hx hk
    obtain rfl : e = cachedEntry := by simpa [cachedSpline] using he
    obtain ⟨hl, h0, h2, hr⟩ := hb
    obtain ⟨a, b, c, rfl⟩ : ∃ a b c, bones = [a, b, c] := List.length_eq_three.mp hl
    obtain rfl : b = none := hx
    cases a with
    | none => exact absurd rfl h0
    | some a =>
      cases c with
      | none => exact absurd rfl h2
      | some c =>
        have ha : 0 ≤ a ∧ a < 2 := hr 0 a rfl
        have hc : 0 ≤ c ∧ c < 2 := hr 2 c rfl
        obtain ⟨ha, ha'⟩ := ha
        obtain ⟨hc, hc'⟩ := hc
        interval_cases a <;> interval_cases c
        · exact absurd hk (by decide +kernel)
        · decide +kernel
        · exact absurd hk (by decide +kernel)
        · exact absurd hk (by decide +kernel)

/-- Boundary values of the domains. -/
theorem witness_CodecRoundTrip :
    inDomain .unary 0 (0 : Nat) = true ∧ inDomain .gamma 0 (1 : Nat) = true ∧ (isIota .giota = true → 3 ≤ 3)
      ∧ inDomain .giota 3 (3 : Nat) = true ∧ inDomain .giota 16 (15 : Nat) = true ∧ inDomain .diota 16 (16 : Nat) = true
      ∧ ∀ n ∈ [1, 3, 2], inDomain .giota 3 ((n : Nat) : Int) = true := by
  decide +kernel

theorem witness_EncCompletes :
    HasCodeword .giota (with2 3 3).arg1.toNat .native (encOperand .native (with2 3 3))
      ∧ HasCodeword .gamma (with2 0 0).arg1.toNat .unsigned (encOperand .unsigned (with2 0 0))
      ∧ HasCodeword .gamma (with2 0x80000000 0).arg1.toNat .signed (encOperand .signed (with2 0x80000000 0))
      ∧ (with2 3 3).bout.length + (codeword .giota 3 .native 3).length ≤ 2 ^ 20
      ∧ (with2 0 0).bout.length + (codeword .gamma 0 .unsigned 0).length ≤ 2 ^ 20
      ∧ (with2 0x80000000 0).bout.length + (codeword .gamma 0 .signed (-2 ^ 31)).length ≤ 2 ^ 20 := by
  unfold HasCodeword codeword
  decide +kernel

/-- ENC 1 with a full BOUT. -/
def fullBout : State := { with2 1 0 with bout := List.replicate (2 ^ 20) false }

theorem fullBout_length : fullBout.bout.length = 2 ^ 20 := List.length_replicate

theorem fullBout_codeword :
    (codeword .gamma fullBout.arg1.toNat .native (encOperand .native fullBout)).length = 1 := by
  show (codeword .gamma (with2 1 0).arg1.toNat .native (encOperand .native (with2 1 0))).length = 1
  decide +kernel

/-- A value outside the domain, a full BOUT, a bound below 3, the haven fields at their largest values and above. -/
theorem witness_CodecOperandRefusals :
    (inDomain .gamma (with2 0 0).arg1.toNat (adaptIn .native .gamma (encOperand .native (with2 0 0))) = false)
      ∧ (inDomain .gamma fullBout.arg1.toNat (adaptIn .native .gamma (encOperand .native fullBout)) = true
          ∧ fullBout.bout.length ≤ 2 ^ 20
          ∧ 2 ^ 20 < fullBout.bout.length
              + (codeword .gamma fullBout.arg1.toNat .native (encOperand .native fullBout)).length)
      ∧ (isIota .giota = true ∧ (with2 1 2).arg1.toNat < 3
          ∧ hb0Field ({ with2 1 2 with cfgHaven := 0x11F#32 } : State).cfgHaven ≤ 31
          ∧ bfnField ({ with2 1 2 with cfgHaven := 0x11F#32 } : State).cfgHaven ≤ 1)
      ∧ (31 < hb0Field ({ with2 1 2 with cfgHaven := 0x120#32 } : State).cfgHaven
          ∧ hb0Field ({ with2 1 2 with cfgHaven := 0x21F#32 } : State).cfgHaven ≤ 31
          ∧ 1 < bfnField ({ with2 1 2 with cfgHaven := 0x21F#32 } : State).cfgHaven) := by
  rw [fullBout_codeword, fullBout_length]
  refine ⟨by decide, ⟨?_, le_rfl, Nat.lt_succ_self _⟩, by decide, by decide⟩
  show inDomain .gamma (with2 1 0).arg1.toNat (adaptIn .native .gamma (encOperand .native (with2 1 0))) = true
  decide +kernel

/-- A value that fits, one that does not, an empty BIN, and a codeword cut in its body. -/
theorem witness_DecResults :
    (inDomain .gamma (withBin [1, 1, 0]).arg1.toNat (1 : Nat) = true
        ∧ (withBin [1, 1, 0]).bin = encCode .gamma (withBin [1, 1, 0]).arg1.toNat 1 ++ bl [1, 0])
      ∧ inDomain .gamma 255 (2 ^ 32 : Nat) = true ∧ ¬adaptOut .native .gamma (2 ^ 32) < 2 ^ 32
      ∧ (withBin []).bin = []
      ∧ (withBin [0, 0, 0, 1]).bin ≠ [] ∧ inDomain .gamma 255 (8 : Nat) = true
      ∧ encCode .gamma (withBin [0, 0, 0, 1]).arg1.toNat 8 = (withBin [0, 0, 0, 1]).bin ++ bl [0, 0, 0] := by
  decide +kernel

theorem witness_SequenceCodecsComplete :
    (∀ e ∈ (withSin [3, 0]).sin, HasCodeword .gamma (withSin [3, 0]).arg1.toNat .unsigned e)
      ∧ (withSin [3, 0]).bout.length + (codewords .gamma 255 .unsigned [3, 0]).length ≤ 2 ^ 20
      ∧ (withBin [0, 0, 1, 0, 0, 1]).bin = codewords .gamma (withBin []).arg1.toNat .unsigned [3, 0]
      ∧ Pushable (withBin [0, 0, 1, 0, 0, 1]) [3, 0]
      ∧ (∀ e ∈ [(2 : Int), -1], HasCodeword .diota 5 .signed e) := by
  unfold HasCodeword codewords codeword Pushable inElemRange
  decide +kernel

/-- The largest elements of each transform, and the largest focus. -/
theorem witness_ElementTransformResults :
    Pushable (withSin [2147483647, 0]) (List.zipWith (· - ·) (withSin [2147483647, 0]).sin (0 :: (withSin [2147483647, 0]).sin))
      ∧ Pushable (withSin [2147483647, -1]) ((withSin [2147483647, -1]).sin.scanl (· + ·) 0).tail
      ∧ Pushable (withSin [1073741823, -1073741824])
          ((withSin [1073741823, -1073741824]).sin.map (fun n => if 0 ≤ n then 2 * n else -2 * n - 1))
      ∧ Pushable (withSin [2147483647]) ((withSin [2147483647]).sin.map (fun u => if Even u then u / 2 else -((u + 1) / 2)))
      ∧ (let s := { withSin [0, 2147483646, 2147483647] with arg0 := 0x3FFFFFFF#32 }
         s.arg0.toNat < 2 ^ 30 ∧ (∀ e ∈ s.sin, 0 ≤ e)
          ∧ Pushable s (s.sin.map (fun v => foldAround v s.arg0.toNat))
          ∧ Pushable s (s.sin.map (fun u => unfoldAround u s.arg0.toNat))) := by
  unfold Pushable inElemRange foldAround unfoldAround
  decide +kernel

/-- A sequence that uses its whole budget. -/
theorem witness_TrackedSumResults :
    ([2, 3, 1, 0] : List Nat).sum ≤ (with2 6 4).arg0.toNat
      ∧ ({ with2 6 4 with sin := [2, 3, 1, 0] } : State).sin = ([2, 3, 1, 0] : List Nat).map Int.ofNat
      ∧ (with2 6 4).bout.length + (tsumBits 6 [2, 3, 1, 0]).length ≤ 2 ^ 20
      ∧ (with2 6 4).arg1.toNat = ([2, 3, 1, 0] : List Nat).length
      ∧ ({ with2 6 4 with bin := bl [0, 1, 0, 0, 1, 1, 1, 1] } : State).bin = tsumBits 6 [2, 3, 1, 0] ++ [true]
      ∧ Pushable (with2 6 4) (([2, 3, 1, 0] : List Nat).map Int.ofNat) := by
  have h : tsumBits 6 [2, 3, 1, 0] = bl [0, 1, 0, 0, 1, 1, 1] := by
    simp [tsumBits, List.range, List.range.loop, bl, binMsb, Nat.clog]
    decide
  rw [h]
  unfold Pushable inElemRange
  decide +kernel

/-- The haven example of section 2.3, at the reset value of CFG_HAVEN. -/
theorem witness_HavenResults :
    HavenOk .gamma (withSin [5, 6]).arg1.toNat (bfnField (withSin [5, 6]).cfgHaven) (hb0Field (withSin [5, 6]).cfgHaven) [5, 6]
      ∧ (withSin [5, 6]).sin = ([5, 6] : List Nat).map Int.ofNat
      ∧ (withSin [5, 6]).bout.length + (havenBits .gamma 255 1 0 [5, 6]).length ≤ 2 ^ 20
      ∧ (withBin [0, 0, 1, 1, 0, 0, 1, 0, 1, 0]).bin = havenBits .gamma 255 1 0 [5, 6]
      ∧ Pushable (withBin []) (([5, 6] : List Nat).map Int.ofNat)
      ∧ HavenOk .diota 3 0 31 [5] := by
  unfold HavenOk HasCodeword havenBits havenItem codeword bucketAt Pushable inElemRange
  decide +kernel

/-- Its refusals after the item 5, whose bucket size is 2: a high part of 2^31, a raw tail of one bit, an item of 2^31. -/
theorem witness_HavenResults_refused :
    HavenOk .gamma 255 1 0 [5] ∧ Pushable (withBin []) (([5] : List Nat).map Int.ofNat)
      ∧ bucketAt 1 0 [5] ([5] : List Nat).length = 2 ∧ ([true] : Bits).length < 2
      ∧ (∀ hi ∈ [2 ^ 31, 1, 2 ^ 29], HasCodeword .gamma 255 .unsigned ((hi : Nat) : Int)) ∧ 2 ^ 31 ≤ 2 ^ 29 * 2 ^ 2 + 0
      ∧ 0 < 2 ^ 2 ∧ (withBin []).sout.length + ([5] : List Nat).length < 8192 := by
  unfold HavenOk HasCodeword bucketAt Pushable inElemRange
  decide +kernel

theorem witness_RulerOrderLaw :
    (2 : Nat) ≤ 3 ∧ rulerVisits 3 = [(0, none), (2, none)] ++ (1, some (0, 2)) :: [] := by decide +kernel

/-- The sequence 10, 13, 11: its midpoint is visited last, with focus Round(10.5) = 10. -/
theorem witness_RulerResults :
    let focus := fun t : Nat × Option (Nat × Nat) => match t.2 with
      | none => (0 : Int)
      | some (a, b) => roundHalfEven (([10, 13, 11].getD a 0 : Int)
          + (([10, 13, 11].getD b 0 : Int) - ([10, 13, 11].getD a 0 : Int)) * ((t.1 : Rat) - a) / ((b : Rat) - a))
    (∀ e ∈ [(10 : Int), 13, 11], 0 ≤ e) ∧ (withSin [10, 13, 11]).sin = [10, 13, 11]
      ∧ (rulerVisits 3).map (fun t => foldAround ([10, 13, 11].getD t.1 0) (focus t)) = [10, 11, 6]
      ∧ Pushable (withSin [10, 13, 11]) [10, 11, 6]
      ∧ (withSin [10, 11, 6]).sin = [10, 11, 6] ∧ Pushable (withSin [10, 11, 6]) [10, 13, 11] := by
  unfold Pushable inElemRange foldAround
  decide +kernel

/-- Also for the empty sequence, whose palette is empty. -/
theorem witness_PaletteResults :
    ([3, 7, 9] : List Int).Pairwise (· < ·) ∧ (∀ x, x ∈ ([3, 7, 9] : List Int) ↔ x ∈ ([7, 3, 7, 9] : List Int))
      ∧ (withSin [7, 3, 7, 9]).sin = [7, 3, 7, 9] ∧ Pushable (withSin [7, 3, 7, 9]) [3, 3, 4, 2, 1, 0, 1, 2]
      ∧ (3 : Int) :: (List.zipWith (· - ·) [3, 7, 9] (0 :: [3, 7, 9])
          ++ ([7, 3, 7, 9] : List Int).map (fun x => (([3, 7, 9] : List Int).idxOf x : Int))) = [3, 3, 4, 2, 1, 0, 1, 2]
      ∧ (withSin [3, 3, 4, 2, 1, 0, 1, 2]).sin = [3, 3, 4, 2, 1, 0, 1, 2]
      ∧ Pushable (withSin [3, 3, 4, 2, 1, 0, 1, 2]) [7, 3, 7, 9] := by
  unfold Pushable inElemRange
  refine ⟨by decide, fun x => ?_, by decide +kernel⟩
  simp only [List.mem_cons, List.not_mem_nil, or_false]
  tauto

theorem witness_FloorAndMedianResults :
    ((3 : Int) ∈ (withSin [7, 3, 7, 9]).sin ∧ (∀ e ∈ (withSin [7, 3, 7, 9]).sin, 3 ≤ e)
        ∧ Pushable (withSin [7, 3, 7, 9]) (3 :: (withSin [7, 3, 7, 9]).sin.map (fun x => x - 3)))
      ∧ (withSin [3, 4, 0]).sin = 3 :: [4, 0] ∧ (∀ e ∈ [(4 : Int), 0], 0 ≤ e)
      ∧ Pushable (withSin [3, 4, 0]) ([(4 : Int), 0].map (fun e => e + 3))
      ∧ ([3, 7, 7, 9] : List Int).Perm (withSin [7, 3, 7, 9]).sin ∧ ([3, 7, 7, 9] : List Int).Pairwise (· ≤ ·)
      ∧ ([3, 7, 7, 9] : List Int)[((withSin [7, 3, 7, 9]).sin.length - 1) / 2]? = some 7
      ∧ Pushable (withSin [7, 3, 7, 9]) (7 :: (withSin [7, 3, 7, 9]).sin.map (fun x => zigZag (x - 7)))
      ∧ Pushable (withSin [3, 4, 0]) ([(4 : Int), 0].map (fun e => unZigZag e + 3)) ∧ (withSin []).sin = [] := by
  unfold Pushable inElemRange
  decide +kernel

/-- A focus at 2^30; a failing element after one that passes; a full SOUT and an element just out of range. -/
theorem witness_TransformRefusals :
    2 ^ 30 ≤ (with2 (2 ^ 30) 0).arg0.toNat
      ∧ (let s := withSin [4, -1]
         s.sin = [4] ++ -1 :: [] ∧ (∀ x ∈ [(4 : Int)], 0 ≤ x) ∧ Pushable s ([4].map unZigZag) ∧ s.arg0.toNat < 2 ^ 30
          ∧ Pushable s ([4].map (fun v => foldAround v s.arg0.toNat))
          ∧ Pushable s ([4].map (fun u => unfoldAround u s.arg0.toNat)))
      ∧ (let s := withSin [-3, 4, -1]
         s.sin = -3 :: ([4] ++ -1 :: []) ∧ Pushable s ([4].map (fun x => x + -3))
          ∧ Pushable s ([4].map (fun x => unZigZag x + -3)))
      ∧ (let s := { withSin [1] with sout := List.replicate 8192 0 }
         s.sin ≠ [] ∧ s.sout.length = 8192)
      ∧ (let s := withSin [-1073741824, 1073741824]
         s.sin = [-1073741824] ++ 1073741824 :: [] ∧ Pushable s ([-1073741824].map zigZag)
          ∧ s.sout.length + 1 < 8192 ∧ (2 ^ 30 : Int) ≤ 1073741824) := by
  unfold Pushable inElemRange foldAround unfoldAround
  exact ⟨by decide, by decide +kernel, by decide +kernel, ⟨by decide, List.length_replicate⟩, by decide +kernel⟩

/-- Its clauses about tracked sums, after the item 3 of a total of 9 (three bits for the next one): an item of 7, a negative
one, two bits of a tail, and a tail that reads 7. -/
theorem witness_TransformRefusals_sum :
    let s := with2 9 2
    ([3] : List Nat).sum ≤ s.arg0.toNat ∧ Nat.clog 2 (9 - 3 + 1) = 3 ∧ (s.arg0.toNat - ([3] : List Nat).sum : Nat) = 6
      ∧ ({ s with sin := [3, 7] } : State).sin = ([3] : List Nat).map Int.ofNat ++ 7 :: [] ∧ (6 : Int) < 7
      ∧ s.bout.length + (tsumBits 9 [3]).length ≤ 2 ^ 20
      ∧ ([3] : List Nat).length < s.arg1.toNat ∧ Pushable s (([3] : List Nat).map Int.ofNat)
      ∧ (bl [1, 1]).length < 3 ∧ (7 : Nat) < 2 ^ 3 ∧ 9 - 3 < 7 := by
  have h : (tsumBits 9 [3]).length = 4 := by
    simp [tsumBits, List.range, List.range.loop, binMsb, show Nat.clog 2 10 = 4 by decide +kernel]
  have hc : Nat.clog 2 (9 - 3 + 1) = 3 := by decide +kernel
  simp only [h, hc]
  unfold Pushable inElemRange
  decide +kernel

/-- Its clauses about the palette: too short by one, negative, a step of 0 after one that passes, the last place a step can
stand, an index at K, and any index into an empty palette. -/
theorem witness_TransformRefusals_palette :
    (withSin []).sin = [] ∧ (withSin [3, 1, 2]).sin = 3 :: [1, 2] ∧ (([1, 2] : List Int).length : Int) < 3 ∧ (-1 : Int) < 0
      ∧ ((withSin [3, 1, 2, 0]).sin = ((3 : Nat) : Int) :: 1 :: ([2] ++ 0 :: []) ∧ ([2] : List Int).length + 1 < 3
          ∧ 3 ≤ ([2] : List Int).length + ([] : List Int).length + 2)
      ∧ (let s := withSin [2, 4, 3, 1, 2]
         ([4, 7] : List Int).Pairwise (· < ·)
          ∧ s.sin = (2 : Int) :: (List.zipWith (· - ·) [4, 7] (0 :: [4, 7]) ++ ([1] ++ 2 :: []))
          ∧ Pushable s ([(1 : Int)].map (fun x => ([4, 7] : List Int).getD x.toNat 0)))
      ∧ (withSin [0, 0]).sin = 0 :: (List.zipWith (· - ·) [] (0 :: []) ++ ([] ++ 0 :: [])) := by
  unfold Pushable inElemRange
  decide +kernel

/-- Legal, and each field just outside; an existing catalogue with x and y just outside. -/
theorem witness_CatInitAndChecks :
    State.reset.cer.phase ≠ .active ∧ GeometryOk 4096 65536 ∧ GeometryOk 2 2 ∧ ¬(2 ≤ (1#32).toNat ∧ (1#32).toNat ≤ 4096)
      ∧ ¬(2 ≤ (4097#32).toNat ∧ (4097#32).toNat ≤ 4096) ∧ ¬(2 ≤ (65537#32).toNat ∧ (65537#32).toNat ≤ 65536)
      ∧ (cat4 4 0).cer.phase ≠ .active ∧ (with2 0 0).cat.valid = false ∧ (cat4 4 0).cat.valid = true
      ∧ (cat4 4 0).cat.n ≤ (cat4 4 0).arg0.toNat ∧ (cat4 3 4).arg0.toNat < (cat4 3 4).cat.n
      ∧ (cat4 3 4).cat.v ≤ (cat4 3 4).arg1.toNat := by
  unfold GeometryOk
  decide +kernel

theorem witness_CatReadResults :
    (cat4b 1 2).cat.valid = true ∧ (cat4b 1 2).arg0.toNat < (cat4b 1 2).cat.n
      ∧ (cat4b 1 2).cat.cols[(cat4b 1 2).arg0.toNat]? = some { lo := 0, hi := 3, rsv := false }
      ∧ (cat4b 1 2).arg1.toNat < (cat4b 1 2).cat.v := by decide +kernel

/-- An ordinary column, a critical one and a resolved one. -/
theorem witness_CatEliminateResults :
    ∀ p ∈ [(cat4b 1 2, { lo := 0, hi := 3, rsv := false }), (cat4c 1 2, { lo := 1, hi := 3, rsv := false }),
        (cat4d 1 2, ({ lo := 1, hi := 3, rsv := true } : Column))],
      p.1.cer.phase ≠ .active ∧ p.1.cat.valid = true ∧ p.1.arg0.toNat < p.1.cat.n ∧ p.1.arg1.toNat < p.1.cat.v
        ∧ p.1.cat.cols[p.1.arg0.toNat]? = some p.2 ∧ p.2.lo + 2 ≤ p.2.hi := by decide +kernel

/-- At V = 8: a minimum of 4 leaves hi - lo = 5, a minimum of 5 leaves 4. -/
theorem witness_CatImposeResults :
    (let s := { with2 4 0 with cat := freshCatalogue 2 8 }
     s.cer.phase ≠ .active ∧ s.cat.valid = true
      ∧ ∀ c ∈ s.cat.cols, c.rsv = false → 4 < (imposeMinColumn 4 c).hi - (imposeMinColumn 4 c).lo)
      ∧ (let s := { with2 5 0 with cat := freshCatalogue 2 8 }
         s.cer.phase ≠ .active ∧ s.cat.valid = true
          ∧ ∃ c ∈ s.cat.cols, c.rsv = false ∧ (imposeMinColumn 5 c).hi - (imposeMinColumn 5 c).lo ≤ 4) := by
  decide +kernel

theorem witness_CatExtremeResult :
    (cat4d 3 0).cat.valid = true ∧ (cat4d 3 0).cat.cols.length = (cat4d 3 0).cat.n
      ∧ Pushable (cat4d 3 0) [0, 0, 0, 3, 2, 0, 2, 3, 3, 0, 3, 3] := by
  unfold Pushable inElemRange
  decide +kernel

/-- The four endpoint modes, and a literal endpoint just outside. -/
theorem witness_SplInitResult :
    ∀ m ∈ [0x00020922, 0x00420922, 0x00820922, 0x00C20922],
      let s := { with2 0 15 with
        arg2 := 16#32, cfgN := 5#32, cfgV := 16#32, cfgMethod := BitVec.ofNat 32 m, cfgCache := 6#32 }
      s.cer.phase ≠ .active ∧ GeometryOk s.cfgN.toNat s.cfgV.toNat ∧ MethodOk s.cfgMethod
        ∧ locpolField s.cfgCache ≤ 2 ∧ s.arg1.toNat < 16 ∧ 16 ≤ s.arg2.toNat := by
  unfold GeometryOk MethodOk
  decide +kernel

/-- x at N, y at V, the bone's own value, another value, and a free column. -/
theorem witness_SplSetResult :
    (let s := { with2 5 16 with spl := spl5 0x20922 0 8 }
     s.cer.phase ≠ .active ∧ s.spl.valid = true ∧ s.spl.n ≤ s.arg0.toNat ∧ s.spl.v ≤ s.arg1.toNat)
      ∧ (let s := { with2 4 8 with spl := spl5 0x20922 0 8 }
         s.arg0.toNat < s.spl.n ∧ s.arg1.toNat < s.spl.v ∧ boneAt s.spl.bones s.arg0.toNat = some (s.arg1.toNat : Int))
      ∧ (let s := { with2 4 9 with spl := spl5 0x20922 0 8 }
         boneAt s.spl.bones s.arg0.toNat = some 8 ∧ (8 : Int) ≠ s.arg1.toNat)
      ∧ (let s := { with2 3 15 with spl := spl5 0x20922 0 8 }
         s.arg0.toNat < s.spl.n ∧ s.arg1.toNat < s.spl.v ∧ boneAt s.spl.bones s.arg0.toNat = none) := by
  decide +kernel

theorem witness_PredictionCommands :
    let s := { with2 4 15 with spl := spl5 0x20922 0 8 }
    s.spl.valid = true ∧ SplineOk s.spl ∧ CacheValuesOk s.spl ∧ s.arg0.toNat < s.spl.n ∧ s.arg1.toNat < s.spl.v
      ∧ Pushable s ((List.range s.spl.n).map (purePredict s.spl)) := by
  refine ⟨rfl, spl5_ok 0x20922 methodOk_reset, cacheValuesOk_nil rfl, by decide, by decide, ?_⟩
  unfold Pushable inElemRange
  decide +kernel

/-- A bone, a non-bone, and a sound bone array. -/
theorem witness_SurroundingsAndInspection :
    (let s := { with2 4 0 with spl := spl5 0x20922 0 8 }
     s.spl.valid = true ∧ s.arg0.toNat < s.spl.n ∧ boneAt s.spl.bones s.arg0.toNat = some 8)
      ∧ (let s := { with2 3 0 with spl := spl5 0x20922 0 8 }
         s.spl.valid = true ∧ boneAt s.spl.bones s.arg0.toNat = none ∧ Pushable s [-1, -1, 0, 0, 4, 8, -1, -1])
      ∧ BonesOk 5 16 (spl5 0x20922 0 8).bones := by
  refine ⟨by decide +kernel, ⟨by decide +kernel, by decide +kernel, ?_⟩, bonesOk_of_check (by decide +kernel)⟩
  unfold Pushable inElemRange
  decide +kernel

/-- Halves of both signs, and the middle of a sinusoidal interval. -/
theorem witness_RoundingIsExact :
    (5 / 2 : Rat) - (5 / 2 : Rat).floor = 1 / 2 ∧ (-7 / 2 : Rat) - (-7 / 2 : Rat).floor = 1 / 2
      ∧ 0 < 1 ∧ (1 : Nat) < 2 := by decide +kernel

/-- Each METHOD at x = 2 between the bones 0:0 and 4:8, where nearest-neighbor is at its tie. -/
theorem witness_MethodValues :
    ∀ m ∈ [0x20000, 0x20001, 0x20002, 0x20003, 0x20004, 0x20005],
      boneAt (spl5 m 0 8).bones 2 = none ∧ nfiltField (spl5 m 0 8).cfg = 0
        ∧ (surroundings (spl5 m 0 8).bones 2).l1 = some (0, 0) ∧ (surroundings (spl5 m 0 8).bones 2).r1 = some (4, 8)
        ∧ (surroundings (spl5 m 0 8).bones 2).l2 = none ∧ (surroundings (spl5 m 0 8).bones 2).r2 = none
        ∧ methodField (spl5 m 0 8).cfg = m % 8 ∧ idwdField (spl5 m 0 8).cfg < 2 := by decide +kernel

/-- Its clauses with L2 and R2 present and with a clip alone, at x = 3 of the Hermite vector. -/
theorem witness_MethodValues_neighbours :
    (∀ m ∈ [0x20004, 0x20014, 0x20114, 0x20005],
      let sr := surroundings (hermiteSpline m).bones 3
      boneAt (hermiteSpline m).bones 3 = none ∧ sr.l2 = some (1, 10) ∧ sr.l1 = some (2, 15) ∧ sr.r1 = some (4, 15)
        ∧ sr.r2 = some (5, 15) ∧ methodField (hermiteSpline m).cfg = m % 8)
      ∧ filterChain (hermiteSpline 0x20014).cfg = [0] ∧ filterChain (hermiteSpline 0x20114).cfg = [1]
      ∧ idwdField (hermiteSpline 0x20005).cfg < 2 := by decide +kernel

/-- The reset chain, and a chain in which span_clip and round stand around global_clip. -/
theorem witness_PredictionBound :
    ((spl5 0x20922 0 8).valid = true ∧ SplineOk (spl5 0x20922 0 8) ∧ 4 < (spl5 0x20922 0 8).n
      ∧ filterChain (spl5 0x20922 0 8).cfg = [1, 2])
      ∧ SplineOk (spl5 0x22134 0 8) ∧ filterChain (spl5 0x22134 0 8).cfg = [1, 0, 2] :=
  ⟨⟨rfl, spl5_ok 0x20922 methodOk_reset, by decide, by decide⟩, spl5_ok 0x22134 (by unfold MethodOk; decide), by decide⟩

theorem witness_NearestBoneAndKeyLaws :
    nearestBone (spl5 0x20922 0 8).bones 2 = some 0 ∧ 3 < 5 ∧ BonesOk 5 16 (spl5 0x20922 0 8).bones
      ∧ BonesOk 5 16 [some 0, none, none, none, some 8] ∧ boneAt (spl5 0x20922 0 8).bones 3 = none
      ∧ boneAt [some 0, none, none, none, some 8] 3 = none
      ∧ surroundKeyOf 5 16 (surroundings (spl5 0x20922 0 8).bones 3)
          = surroundKeyOf 5 16 (surroundings [some 0, none, none, none, some 8] 3) :=
  ⟨by decide +kernel, by decide, bonesOk_of_check (by decide +kernel), bonesOk_of_check (by decide +kernel),
    by decide +kernel, by decide, by decide +kernel⟩

/-- Mode words 0 and 2, the smallest block, and one sample too few. -/
theorem witness_CerInitEncodes :
    ((blockOf 4 [0, 1, 2, 3]).arg0.toNat = 0 ∧ EncodeReady (blockOf 4 [0, 1, 2, 3]))
      ∧ (let s := { blockOf 2 [0, 1] with arg0 := 2#32 }
         s.arg0.toNat = 2 ∧ EncodeReady s)
      ∧ (let s := { blockOf 4 [0, 1, 2, 3] with sin := [0, 1, 2] }
         GeometryOk s.cfgN.toNat s.cfgV.toNat ∧ MethodOk s.cfgMethod ∧ locpolField s.cfgCache ≤ 2
          ∧ s.sin.length < s.cfgN.toNat) := by
  unfold EncodeReady GeometryOk MethodOk plaintext
  decide +kernel

/-- A reserved mode word, each endpoint at V, and legal endpoints. -/
theorem witness_CerInitDecodes :
    4 ≤ (with2 4 0).arg0.toNat
      ∧ (∀ p ∈ [(0, 3), (4, 0), (3, 4)],
        let s := { decodeOf [6] with arg1 := BitVec.ofNat 32 p.1, arg2 := BitVec.ofNat 32 p.2 }
        s.arg0.toNat = 1 ∧ GeometryOk s.cfgN.toNat s.cfgV.toNat ∧ MethodOk s.cfgMethod ∧ locpolField s.cfgCache ≤ 2
          ∧ s.arg1.toNat = p.1 ∧ s.arg2.toNat = p.2 ∧ s.cfgV.toNat = 4) := by
  unfold GeometryOk MethodOk
  decide +kernel

theorem witness_EncodingRunCompletes :
    BlockInv act3 ∧ act3.cer.phase = .active ∧ act3.cer.mode = .encode :=
  ⟨act3_inv, by decide +kernel, by decide +kernel⟩

theorem witness_EncodingBlockCompletes :
    BlockInv act3 ∧ act3.cer.phase = .active ∧ act3.cer.mode = .encode :=
  ⟨act3_inv, by decide +kernel, by decide +kernel⟩

/-- A decoding block with press value 0, with none, with -1, and with 4, one more than the eliminations that remain; and one
that reads BIN, which is empty. -/
theorem witness_DecodingRunHitsAtOnce :
    (BlockInv act3d ∧ act3d.cer.phase = .active ∧ act3d.cer.mode = .decode ∧ act3d.cer.psrc = .sin
      ∧ act3d.sin = 0 :: [7]
      ∧ act3d.cer.rank = { score := 2, x := 1, y := 3 } :: [{ score := 3, x := 1, y := 0 }])
      ∧ (∀ xs ∈ [[], [-1], [4]], BlockInv { act3d with sin := xs }) ∧ remainingElims act3d.cat < 4
      ∧ (let s := { act3d with cer := { act3d.cer with psrc := .bin } }
         BlockInv s ∧ s.cer.psrc = .bin ∧ rcidField s.cer.cfgCodec = Codec.gamma.id ∧ s.bin = []) := by
  have h : ∀ xs, BlockInv { act3d with sin := xs } := fun xs => act3d_inv
  exact ⟨⟨act3d_inv, by decide +kernel⟩, fun xs _ => h xs, by decide +kernel, active_inv (by decide +kernel),
    by decide +kernel⟩

/-- The block of section 2.6 whose press data is [6], decoded from SIN with one element more, and with other caches. -/
theorem witness_DecoderFollowsEncoder :
    let s := blockOf 4 [0, 1, 2, 3]
    let e := after (exec .cerInit s)
    let t := after (exec .cerBlock e)
    let d := { decodeOf [6, 5] with cfgCache := 6#32 }
    EncodeReady s ∧ s.arg0.toNat = 0 ∧ exec .cerInit s = .next e ∧ exec .cerBlock e = .next t
      ∧ d.cfgN = s.cfgN ∧ d.cfgV = s.cfgV ∧ d.cfgMethod = s.cfgMethod ∧ locpolField d.cfgCache ≤ 2 ∧ d.arg0 = 1#32
      ∧ some (d.arg1.toNat : Int) = (plaintext s).head? ∧ some (d.arg2.toNat : Int) = (plaintext s).getLast?
      ∧ d.sin = t.cer.press.map Int.ofNat ++ [5] := by
  unfold EncodeReady GeometryOk MethodOk plaintext
  exact ⟨by decide +kernel, by decide +kernel, eq_after (by decide +kernel), eq_after (by decide +kernel),
    by decide +kernel⟩

theorem witness_EncodeBlockCompletes :
    let s := blockOf 4 [0, 1, 3, 2, 0]
    EncodeReady s ∧ rcidField s.cfgCodec = Codec.gamma.id ∧ isIota .gamma = false
      ∧ s.bout.length + (s.cfgN.toNat - 2) * (s.cfgV.toNat - 1) + 9 * s.cfgN.toNat + 100 ≤ 2 ^ 20 := by
  unfold EncodeReady GeometryOk MethodOk plaintext
  decide +kernel

/-- Its refusals: METHOD 6, LOCPOL 3 and RCID 14, and a gamma-Iota bound of 2. -/
theorem witness_EncodeBlockCompletes_refused :
    let s := blockOf 4 [0, 1, 3, 2, 0]
    GeometryOk s.cfgN.toNat s.cfgV.toNat ∧ MethodOk s.cfgMethod ∧ locpolField s.cfgCache ≤ 2
      ∧ ¬MethodOk 0x00020926#32 ∧ 2 < locpolField 3#32 ∧ 13 < rcidField 14#32
      ∧ rcidField 12#32 = Codec.giota.id ∧ isIota .giota = true ∧ (2#32).toNat < 3 := by
  unfold GeometryOk MethodOk
  decide +kernel

/-- The five-sample block of section 2.6, decoded with `10` after it and with other caches. -/
theorem witness_BlockRoundTrip :
    let s := blockOf 4 [0, 1, 3, 2, 0]
    let t := after (exec .cerEncblk s)
    let d := { with2 0 0 with bin := t.bout ++ [true, false], cfgCache := 5#32 }
    EncodeReady s ∧ exec .cerEncblk s = .next t ∧ t.status.done = true ∧ t.bout = s.bout ++ t.bout
      ∧ withMethod d.cfgMethod (methodField s.cfgMethod) = s.cfgMethod ∧ d.cfgCodec = s.cfgCodec
      ∧ d.cfgIotaMax = s.cfgIotaMax ∧ locpolField d.cfgCache ≤ 2 ∧ d.bin = t.bout ++ [true, false]
      ∧ Pushable d (plaintext s) := by
  unfold EncodeReady GeometryOk MethodOk plaintext Pushable inElemRange
  exact ⟨by decide +kernel, eq_after (by decide +kernel), by decide +kernel⟩

/-- The smallest value range, the last METHOD, an Iota codec with the least bound. -/
theorem witness_DecodeTwoSampleBlock :
    let bits := encGamma 2 ++ encGamma 2 ++ binMsb 4 5 ++ binMsb 1 0 ++ binMsb 1 1 ++ codeword .diota 3 .unsigned 0
    let s := { with2 0 0 with cfgCodec := 13#32, cfgIotaMax := 3#32, bin := bits ++ [true] }
    GeometryOk 2 2 ∧ MethodOk (withMethod s.cfgMethod 5) ∧ locpolField s.cfgCache ≤ 2
      ∧ rcidField s.cfgCodec = Codec.diota.id ∧ (isIota .diota = true → 3 ≤ s.cfgIotaMax.toNat)
      ∧ Pushable s [((0 : Nat) : Int), (1 : Nat)] ∧ Nat.clog 2 2 = 1 ∧ s.bin = bits ++ [true] := by
  have h : Nat.clog 2 2 = 1 := by decide +kernel
  rw [h]
  unfold GeometryOk MethodOk Pushable inElemRange
  decide +kernel

/-- Its clauses about the header: N at 1 and 4097, V at 1 and 65537, the id 6, and endpoints at V = 5. -/
theorem witness_DecodeTwoSampleBlock_header :
    (∀ n ∈ [1, 4097], 1 ≤ n ∧ (n < 2 ∨ 4096 < n)) ∧ (∀ v ∈ [1, 65537], 1 ≤ v ∧ (v < 2 ∨ 65536 < v))
      ∧ GeometryOk 4096 65536 ∧ (6 < 16 ∧ 5 < 6) ∧ GeometryOk 2 5 ∧ Nat.clog 2 5 = 3 ∧ (5 < 2 ^ 3 ∧ 5 ≤ 5)
      ∧ ({ with2 0 0 with bin := encGamma 2 ++ encGamma 5 ++ (binMsb 4 5 ++ (binMsb 3 4 ++ binMsb 3 5 ++ [])) } : State).bin
          = encGamma 2 ++ encGamma 5 ++ (binMsb 4 5 ++ (binMsb 3 4 ++ binMsb 3 5 ++ [])) := by
  have h : Nat.clog 2 5 = 3 := by decide +kernel
  rw [h]
  unfold GeometryOk
  decide +kernel

/-- After a failed decode with two null samples, which CER.FILL then predicts. -/
theorem witness_CerReadAndFill :
    let s := after (exec .cerBlock (after (exec .cerInit (decodeOf []))))
    Pushable s (s.cer.press.map Int.ofNat) ∧ Pushable s (s.cer.plain.map (fun p => p.getD (-1)))
      ∧ s.cer.phase = .failed ∧ s.spl.valid = true ∧ SplineOk s.spl ∧ CacheValuesOk s.spl
      ∧ s.cer.plain.length ≤ s.spl.n := by
  unfold Pushable inElemRange
  refine ⟨by decide +kernel, by decide +kernel, by decide +kernel, by decide +kernel, ?_, ?_, by decide +kernel⟩
  · exact splineOk_of_check (by unfold GeometryOk; decide +kernel) (by unfold MethodOk; decide +kernel)
      (by decide +kernel) (by decide +kernel) (by decide +kernel) (by decide +kernel)
  · exact cacheValuesOk_nil (by decide +kernel)

end Sys2Proof.Tests
end

section
/-! The register window and the sequencer: what one access or one step of a known kind does. -/

namespace Sys2Proof.Machine

/-! The sequencer. -/

/-- While a command runs and no early access waits, no host access acts. -/
theorem hostTurn_of_quiet {s : State} (hb : s.seq = .busy) (hq : Quiet s) : hostTurn s = none := by
  unfold hostTurn
  cases hh : s.host with
  | nil => rfl
  | cons ev rest =>
    have hev : ev.early = false := hq ev (by simp [hh])
    simp [hb, hev]

theorem runLatched_of_decode {s : State} {i : Instr} (h : decode s.cur = .ok i) : runLatched s = exec i s := by
  simp [runLatched, h]

/-- Settles O4: a quiet busy block has no host turn, so the step runs the latched word. -/
theorem stepRunsCommand : Obligations.StepRunsCommand := by
  intro s i hb hq hd
  obtain ⟨a, rest, ht, -⟩ | ⟨-, hi, -⟩ | ⟨-, -, hs⟩ := step_cases s
  · cases (hostTurn_of_quiet hb hq).symm.trans ht
  · cases hb.symm.trans hi
  · exact hs.trans (runLatched_of_decode hd)

/-! Single accesses of an IDLE block. -/

theorem hostRead_idle {s : State} {off : BitVec 8} {w : Nat} {r : Reg} (hs : s.seq = .idle)
    (ha : accessOk off w = true) (hr : regAt off.toNat = some r) : hostAccess (.read off w) s = readIdle r s := by
  simp [hostAccess, hostRead, ha, hr, hs]

theorem hostWrite_idle {s : State} {off : BitVec 8} {w : Nat} {r : Reg} (v : Word) (hs : s.seq = .idle)
    (ha : accessOk off w = true) (hr : regAt off.toNat = some r) :
    hostAccess (.write off w v) s = writeIdle r v s := by
  simp [hostAccess, hostWrite, ha, hr, hs]

/-- No write of an IDLE block but that of CMD starts a command. -/
theorem writeIdle_seq {r : Reg} (hr : r ≠ .cmd) (v : Word) (s : State) : (writeIdle r v s).seq = s.seq := by
  cases r with
  | cmd => exact absurd rfl hr
  | binPush =>
    show (pushBin v s).seq = s.seq
    unfold pushBin
    split <;> rfl
  | sinPush =>
    show (pushSin v s).seq = s.seq
    unfold pushSin
    split <;> rfl
  | _ => rfl

/-- A register written and then read, each by a 4-byte access of an IDLE block. -/
theorem hostRead_hostWrite_idle {s : State} {off : BitVec 8} {r : Reg} (v : Word) (hs : s.seq = .idle)
    (ha : accessOk off 4 = true) (hr : regAt off.toNat = some r) (hc : r ≠ .cmd) :
    hostAccess (.read off 4) (hostAccess (.write off 4 v) s) = readIdle r (hostAccess (.write off 4 v) s) := by
  refine hostRead_idle ?_ ha hr
  rw [hostWrite_idle v hs ha hr, writeIdle_seq hc, hs]

/-- What a read-write register holds after a write of v and a read: v with the reserved bits 0. -/
def readBack (p : BitVec 8 × Word) (v : Word) (s : State) : Prop :=
  hostAccess (.read p.1 4) (hostAccess (.write p.1 4 v) s) = { hostAccess (.write p.1 4 v) s with rdata := v &&& p.2 }

/-- A register whose read after a write of v gives v under a mask reads back. -/
theorem readBack_of {s : State} {off : BitVec 8} {mask : Word} {r : Reg} (v : Word) (hs : s.seq = .idle)
    (ha : accessOk off 4 = true) (hr : regAt off.toNat = some r) (hc : r ≠ .cmd)
    (hv : readIdle r (writeIdle r v s) = returned (v &&& mask) (writeIdle r v s)) : readBack (off, mask) v s := by
  unfold readBack
  rw [hostRead_hostWrite_idle v hs ha hr hc, hostWrite_idle v hs ha hr]
  exact hv

/-- Settles O19: each write is one arm of `writeIdle`, each read after it one arm of `readIdle`. -/
theorem registerReadBack : Obligations.RegisterReadBack := by
  intro s v hs
  have ones (w : Word) (s : State) : returned w s = returned (w &&& 0xFFFFFFFF#32) s := by
    rw [show (0xFFFFFFFF#32) = BitVec.allOnes 32 from rfl, BitVec.and_allOnes]
  have writes {off : BitVec 8} {r : Reg} {t : State} (ha : accessOk off 4 = true) (hr : regAt off.toNat = some r)
      (ht : writeIdle r v s = t) : hostAccess (.write off 4 v) s = t := (hostWrite_idle v hs ha hr).trans ht
  refine ⟨writes rfl rfl rfl, writes rfl rfl rfl, writes rfl rfl rfl, writes rfl rfl rfl, writes rfl rfl rfl,
    writes rfl rfl rfl, writes rfl rfl rfl, writes rfl rfl rfl, writes rfl rfl rfl, writes rfl rfl rfl,
    writes rfl rfl rfl, ?_⟩
  have full {off : BitVec 8} {r : Reg} (ha : accessOk off 4 = true) (hr : regAt off.toNat = some r) (hc : r ≠ .cmd)
      (hv : readIdle r (writeIdle r v s) = returned v (writeIdle r v s)) : readBack (off, 0xFFFFFFFF#32) v s :=
    readBack_of v hs ha hr hc (hv.trans (ones v _))
  show ∀ p ∈ _, readBack p v s
  simp only [List.forall_mem_cons]
  exact ⟨full rfl rfl nofun rfl, full rfl rfl nofun rfl, full rfl rfl nofun rfl, full rfl rfl nofun rfl,
    full rfl rfl nofun rfl, full rfl rfl nofun rfl, readBack_of v hs rfl rfl nofun rfl,
    readBack_of v hs rfl rfl nofun rfl, full rfl rfl nofun rfl, readBack_of v hs rfl rfl nofun rfl,
    readBack_of v hs rfl rfl nofun rfl, nofun⟩

/-! The layout of STATUS and idempotent reads. -/

/-- STATUS bit by bit, for every error kind and every setting of the six flags. -/
theorem statusWord_layout (busy done nochg ovr serr porterr : Bool) (err : Option ErrKind) :
    let w := statusWord ⟨busy, done, nochg, ovr, serr, porterr, err⟩
    w.getLsbD 0 = busy ∧ w.getLsbD 1 = done ∧ w.getLsbD 2 = nochg ∧ w.getLsbD 3 = ovr ∧ w.getLsbD 4 = serr
      ∧ w.getLsbD 5 = porterr ∧ w.extractLsb' 6 2 = 0#2 ∧ w.extractLsb' 12 20 = 0#20
      ∧ (w.extractLsb' 8 4).toNat = errCode err := by
  cases err with
  | none => revert busy done nochg ovr serr porterr; decide +kernel
  | some k => cases k <;> revert busy done nochg ovr serr porterr <;> decide +kernel

theorem dbgPhaseWord_eq (c : Cer) :
    dbgPhaseWord c = BitVec.ofNat 32 ((match c.phase with
      | .idle => 0
      | .active => 1
      | .done => 2
      | .failed => 3) + (if c.mode = .decode then 4 else 0)) := by
  unfold dbgPhaseWord phaseCode modeCode
  cases c.mode <;> rfl

/-- Every register but the two pop ports reads the same when it is read again, and the block stays as it is. -/
theorem readIdle_readIdle {r : Reg} (hb : r ≠ .boutPop) (hs : r ≠ .soutPop) (s : State) :
    readIdle r (readIdle r s) = readIdle r s ∧ (readIdle r s).seq = s.seq := by
  cases r with
  | boutPop => exact absurd rfl hb
  | soutPop => exact absurd rfl hs
  | _ => exact ⟨rfl, rfl⟩

theorem regAt_pop {off : Nat} {r : Reg} (h : regAt off = some r) :
    (r = .boutPop → off = 0x68) ∧ (r = .soutPop → off = 0x78) := by
  unfold regAt at h
  split at h <;> cases h <;> decide

/-- A read that no arm of the window refuses is idempotent, unless it is a pop. -/
theorem hostRead_hostRead_idle {s : State} {off : BitVec 8} {w : Nat} (hs : s.seq = .idle) (hb : off ≠ 0x68#8)
    (hp : off ≠ 0x78#8) :
    hostAccess (.read off w) (hostAccess (.read off w) s) = hostAccess (.read off w) s := by
  by_cases ha : accessOk off w = true
  · cases hr : regAt off.toNat with
    | none => simp [hostAccess, hostRead, ha, hr, returned]
    | some r =>
      obtain ⟨h1, h2⟩ := regAt_pop hr
      have hne1 : r ≠ .boutPop := fun h => hb (BitVec.eq_of_toNat_eq (h1 h))
      have hne2 : r ≠ .soutPop := fun h => hp (BitVec.eq_of_toNat_eq (h2 h))
      obtain ⟨hidem, hseq⟩ := readIdle_readIdle hne1 hne2 s
      rw [hostRead_idle hs ha hr, hostRead_idle (hseq.trans hs) ha hr, hidem]
  · simp [hostAccess, hostRead, ha, returned, statusPortErr]

/-- Settles O16: the layout of STATUS, one arm of `readIdle` for each register, and that reads are idempotent. -/
theorem readOnlyRegisterReads : Obligations.ReadOnlyRegisterReads := by
  refine ⟨fun st => ?_, fun s hs => ?_, fun s off w hs hb hp => hostRead_hostRead_idle hs hb hp⟩
  · obtain ⟨busy, done, nochg, ovr, serr, porterr, err⟩ := st
    obtain ⟨h0, h1, h2, h3, h4, h5, h6, h12, h8⟩ := statusWord_layout busy done nochg ovr serr porterr err
    refine ⟨h0, h1, h2, h3, h4, h5, h6, h12, h8.trans ?_⟩
    cases err with
    | none => rfl
    | some k => cases k <;> rfl
  · have reads {off : BitVec 8} {r : Reg} (ha : accessOk off 4 = true) (hr : regAt off.toNat = some r) (v : Word)
        (hv : readIdle r s = returned v s) : hostAccess (.read off 4) s = { s with rdata := v } :=
      (hostRead_idle hs ha hr).trans hv
    simp only [List.forall_mem_cons]
    exact ⟨reads rfl rfl _ rfl, reads rfl rfl _ rfl, reads rfl rfl _ rfl, reads rfl rfl _ rfl,
      reads rfl (r := .errSub) rfl _ (congrArg (returned · s) (BitVec.eq_of_toNat_eq (by simp))),
      reads rfl rfl _ rfl, reads rfl rfl _ rfl, reads rfl rfl _ rfl, reads rfl rfl _ rfl, reads rfl rfl _ rfl,
      reads rfl rfl _ rfl, reads rfl rfl _ rfl,
      reads rfl (r := .dbgPhase) rfl _ (congrArg (returned · s) (dbgPhaseWord_eq s.cer)),
      reads rfl rfl _ rfl, reads rfl rfl _ rfl, reads rfl rfl _ rfl, reads rfl rfl _ rfl, reads rfl rfl _ rfl, nofun⟩

end Sys2Proof.Machine
end

section
/-! What the commands that only read and write streams and results can do: readers give a suffix of what they read,
writers keep a stream within its bounds. -/

namespace Sys2Proof.Machine

/-! Streams within their bounds. -/

/-- A bit stream within its capacity (10_state.md R34). -/
def BitsFit (b : Bits) : Prop := b.length ≤ Config.bitCap

/-- An element stream within its capacity, its elements in range (10_state.md R34). -/
def SeqFit (q : List Int) : Prop := q.length ≤ Config.seqCap ∧ ∀ e ∈ q, inElemRange e

theorem streamsOk_iff (s : State) : StreamsOk s ↔ BitsFit s.bin ∧ BitsFit s.bout ∧ SeqFit s.sin ∧ SeqFit s.sout := by
  unfold StreamsOk BitsFit SeqFit
  tauto

theorem bitsFit_nil : BitsFit [] := Nat.zero_le _

theorem seqFit_nil : SeqFit [] := ⟨Nat.zero_le _, by simp⟩

theorem BitsFit.suffix {b r : Bits} (h : BitsFit b) (hr : r <:+ b) : BitsFit r := hr.length_le.trans h

theorem SeqFit.suffix {q r : List Int} (h : SeqFit q) (hr : r <:+ q) : SeqFit r :=
  ⟨hr.length_le.trans h.1, fun e he => h.2 e (hr.subset he)⟩

/-- A writer in the Except monad that keeps a property of what it extends, at each element, keeps it over a list. -/
theorem foldlM_keeps {α β : Type} {P : β → Prop} {f : β → α → Except Err β}
    (hf : ∀ {b a b'}, f b a = .ok b' → P b → P b') {l : List α} {b b' : β} (h : l.foldlM f b = .ok b') (hb : P b) :
    P b' := by
  induction l generalizing b with
  | nil =>
    obtain rfl : b = b' := by simpa [pure, Except.pure] using h
    exact hb
  | cons a l ih =>
    rw [List.foldlM_cons, except_bind_ok] at h
    obtain ⟨c, hc, h⟩ := h
    exact ih h (hf hc hb)

theorem seqPush_fits {q q' : List Int} {v : Int} (h : seqPush q v = .ok q') (hq : SeqFit q) : SeqFit q' := by
  have hall : seqPushAll q [v] = .ok q' := by
    simpa [seqPushAll, except_bind_ok, pure, Except.pure] using h
  obtain ⟨rfl, hlen, hv⟩ := seqPushAll_eq [v] q q' hall
  refine ⟨hlen hq.1, fun e he => ?_⟩
  rcases List.mem_append.mp he with he | he
  · exact hq.2 e he
  · exact hv e he

theorem seqPushAll_fits {q q' vs : List Int} (h : seqPushAll q vs = .ok q') (hq : SeqFit q) : SeqFit q' :=
  foldlM_keeps seqPush_fits h hq

/-- Bits are written only where they fit, if the length given is theirs. -/
theorem bitsWrite_fits {b b' w : Bits} {len : Nat} (hlen : len = w.length) (h : bitsWrite b len w = .ok b')
    (hb : BitsFit b) : BitsFit b' := by
  unfold bitsWrite at h
  split at h
  · cases h
  · rename_i hn
    cases h
    unfold BitsFit at *
    rw [List.length_append]
    omega

theorem codeLen_eq (c : Codec) (m n : Nat) : codeLen c m n = (encCode c m n).length := by
  cases c with
  | unary => simp [codeLen, encCode, encUnary]
  | _ => rfl

theorem encodeOne_fits {c : Codec} {m : Nat} {d : Dom} {a info : Int} {b b' : Bits}
    (h : encodeOne c m d a info b = .ok b') (hb : BitsFit b) : BitsFit b' := by
  simp only [encodeOne, except_bind_ok] at h
  obtain ⟨-, -, -, -, h⟩ := h
  exact bitsWrite_fits (codeLen_eq ..) h hb

/-! Readers. -/

/-- A reader leaves a suffix of the bits it was given. -/
def LeavesSuffix {α : Type} (read : Bits → Except Stop (α × Bits)) : Prop :=
  ∀ (b : Bits) (a : α) (rest : Bits), read b = .ok (a, rest) → rest <:+ b

theorem readInto_suffix (w v : Nat) : LeavesSuffix (readInto w v) := by
  induction w generalizing v with
  | zero =>
    intro b a rest h
    cases h
    exact List.suffix_rfl
  | succ w ih =>
    intro b a rest h
    cases b with
    | nil => cases h
    | cons c b => exact (ih _ _ _ _ h).trans (List.suffix_cons c b)

theorem readPrefix_suffix (w : Nat) : LeavesSuffix (readPrefix w) := by
  intro b a rest h
  cases b with
  | nil => cases h
  | cons c b => exact readInto_suffix w 0 _ _ _ h

theorem decUnaryFrom_suffix (z : Nat) : LeavesSuffix (decUnaryFrom z) := by
  intro b
  induction b generalizing z with
  | nil =>
    intro a rest h
    unfold decUnaryFrom at h
    split at h <;> cases h
  | cons c b ih =>
    intro a rest h
    cases c with
    | true =>
      cases h
      exact List.suffix_cons ..
    | false => exact (ih (z + 1) _ _ h).trans (List.suffix_cons ..)

/-- A reader that goes on with another reader, chosen by the value read. -/
theorem LeavesSuffix.bind {α β : Type} {r : Bits → Except Stop (α × Bits)} {k : α × Bits → Except Stop (β × Bits)}
    (hr : LeavesSuffix r) (hk : ∀ a, LeavesSuffix fun b => k (a, b)) : LeavesSuffix fun b => r b >>= k := by
  intro b c rest h
  obtain ⟨⟨a, mid⟩, hread, h⟩ := (except_bind_ok _ _ _).mp h
  exact (hk a _ _ _ h).trans (hr _ _ _ hread)

/-- A reader behind a check. -/
theorem LeavesSuffix.check {α : Type} {p : Prop} [Decidable p] {st : Stop} {r : Bits → Except Stop (α × Bits)}
    (hr : LeavesSuffix r) : LeavesSuffix fun b => if p then .error st else r b := by
  intro b a rest h
  dsimp only at h
  split at h
  · cases h
  · exact hr _ _ _ h

theorem ok_suffix {α : Type} (a : α) : LeavesSuffix fun b => .ok (a, b) := by
  intro b c rest h
  cases h
  exact List.suffix_rfl

theorem decUnary_suffix : LeavesSuffix decUnary := decUnaryFrom_suffix 0

theorem decGamma_suffix : LeavesSuffix decGamma := decUnary_suffix.bind fun p => readInto_suffix p 1

theorem decDelta_suffix : LeavesSuffix decDelta := decGamma_suffix.bind fun l => readInto_suffix (l - 1) 1

theorem enbScan_suffix (k : Nat) (acc : Bits) (ones : Nat) : LeavesSuffix (enbScan k acc ones) := by
  intro b
  induction b generalizing acc ones with
  | nil =>
    intro a rest h
    unfold enbScan at h
    split at h <;> cases h
  | cons c b ih =>
    intro a rest h
    simp only [enbScan] at h
    generalize (if c then ones + 1 else 0) = ones' at h
    split at h
    · cases h
      exact List.suffix_cons ..
    · exact (ih _ _ _ _ h).trans (List.suffix_cons ..)

theorem decEnb_suffix (k : Nat) : LeavesSuffix (decEnb k) :=
  (enbScan_suffix k [] 0).bind fun c => ok_suffix (enbWordValue k c)

theorem decGFib_suffix : LeavesSuffix decGFib := (decEnb_suffix 2).bind fun f => readInto_suffix (f - 1) 1

theorem decDFib_suffix : LeavesSuffix decDFib :=
  (decEnb_suffix 2).bind fun f => (readInto_suffix (f - 1) 1).bind fun l => readInto_suffix (l - 1) 1

theorem decGIota_suffix (m : Nat) : LeavesSuffix (decGIota m) :=
  (readPrefix_suffix _).bind fun p => ((readInto_suffix p 1).bind fun v => (ok_suffix v).check).check

theorem decDIota_suffix (m : Nat) : LeavesSuffix (decDIota m) :=
  (readPrefix_suffix _).bind fun q =>
    ((readInto_suffix q 1).bind fun l =>
      ((readInto_suffix (l - 1) 1).bind fun v => (ok_suffix v).check).check).check

/-- Every codec's reading procedure leaves a suffix of the bits. -/
theorem decCode_suffix (c : Codec) (m : Nat) : LeavesSuffix (decCode c m) := by
  cases c with
  | unary => exact decUnary_suffix
  | gamma => exact decGamma_suffix
  | delta => exact decDelta_suffix
  | fib => exact decEnb_suffix 2
  | trib => exact decEnb_suffix 3
  | enb4 => exact decEnb_suffix 4
  | enb5 => exact decEnb_suffix 5
  | enb6 => exact decEnb_suffix 6
  | enb7 => exact decEnb_suffix 7
  | enb8 => exact decEnb_suffix 8
  | gfib => exact decGFib_suffix
  | dfib => exact decDFib_suffix
  | giota => exact decGIota_suffix m
  | diota => exact decDIota_suffix m

/-! The sequence loops. -/

theorem decSeqFrom_fits {c : Codec} {m : Nat} {d : Dom} {fuel : Nat} {b : Bits} {q q' : List Int} {cnt cnt' : Nat}
    (h : decSeqFrom c m d fuel b q cnt = .ok (q', cnt')) (hq : SeqFit q) : SeqFit q' := by
  induction fuel using Nat.strong_induction_on generalizing b q cnt with
  | _ fuel ih =>
    unfold decSeqFrom at h
    split at h
    · cases h; exact hq
    · cases h
    · simp only [except_bind_ok] at h
      obtain ⟨-, -, q₁, hpush, h⟩ := h
      have hq₁ := seqPush_fits hpush hq
      cases fuel with
      | zero => cases h; exact hq₁
      | succ fuel => exact ih fuel (Nat.lt_succ_self fuel) h hq₁

theorem tsumEncFrom_fits {r : Nat} {ns : List Int} {b b' : Bits} {k k' : Nat}
    (h : tsumEncFrom r ns b k = .ok (b', k')) (hb : BitsFit b) : BitsFit b' := by
  induction ns generalizing r b k with
  | nil => cases h; exact hb
  | cons n ns ih =>
    simp only [tsumEncFrom, except_bind_ok] at h
    obtain ⟨-, -, b₁, hw, h⟩ := h
    exact ih h (bitsWrite_fits (binMsb_length ..).symm hw hb)

theorem tsumDecFrom_fits {total c p : Nat} {b b' : Bits} {q q' : List Int}
    (h : tsumDecFrom total c p b q = .ok (b', q')) : b' <:+ b ∧ (SeqFit q → SeqFit q') := by
  induction c generalizing p b q with
  | zero => cases h; exact ⟨List.suffix_rfl, id⟩
  | succ c ih =>
    unfold tsumDecFrom at h
    split at h
    · cases h
    · rename_i n rest hread
      simp only [except_bind_ok] at h
      obtain ⟨-, -, q₁, hpush, h⟩ := h
      obtain ⟨hb, hq⟩ := ih h
      exact ⟨hb.trans (readInto_suffix _ _ _ _ _ hread), fun hf => hq (seqPush_fits hpush hf)⟩

theorem havenEncFrom_fits {c : Codec} {m bfn hb0 hb : Nat} {ns : List Int} {b b' : Bits}
    (h : havenEncFrom c m bfn hb0 hb ns b = .ok b') (hf : BitsFit b) : BitsFit b' := by
  induction ns generalizing hb b with
  | nil => cases h; exact hf
  | cons n ns ih =>
    simp only [havenEncFrom, except_bind_ok] at h
    obtain ⟨-, -, -, -, b₁, hw, h⟩ := h
    exact ih h (bitsWrite_fits (by rw [List.length_append, binMsb_length, codeLen_eq]) hw hf)

theorem havenDecFrom_fits {c : Codec} {m bfn hb0 hb fuel : Nat} {b : Bits} {q q' : List Int} {cnt cnt' : Nat}
    (h : havenDecFrom c m bfn hb0 hb fuel b q cnt = .ok (q', cnt')) (hq : SeqFit q) : SeqFit q' := by
  induction fuel using Nat.strong_induction_on generalizing hb b q cnt with
  | _ fuel ih =>
    unfold havenDecFrom at h
    split at h
    · cases h; exact hq
    · cases h
    · simp only [except_bind_ok] at h
      obtain ⟨-, -, h⟩ := h
      split at h
      · cases h
      · simp only [except_bind_ok] at h
        obtain ⟨q₁, hpush, h⟩ := h
        have hq₁ := seqPush_fits hpush hq
        cases fuel with
        | zero => cases h; exact hq₁
        | succ fuel => exact ih fuel (Nat.lt_succ_self fuel) h hq₁

end Sys2Proof.Machine
end

section
/-! What a command may change, by family: one frame for the commands that only use streams and results, and the
dispatch of those commands. -/

namespace Sys2Proof.Machine

/-! Ends of a command. -/

/-- The outcome is one of the three ends of a command, made of a state with P. -/
def EndsIn (P : State → Prop) (o : Host.Outcome State Fault Refusal) : Prop :=
  ∃ u, P u ∧ (o = .next (complete u) ∨ o = .next (completeNoChange u) ∨ ∃ e, o = .next (raiseError e u))

theorem EndsIn.complete {P : State → Prop} {u : State} (h : P u) : EndsIn P (.next (complete u)) := ⟨u, h, .inl rfl⟩

theorem EndsIn.noChange {P : State → Prop} {u : State} (h : P u) : EndsIn P (.next (completeNoChange u)) :=
  ⟨u, h, .inr (.inl rfl)⟩

theorem EndsIn.raise {P : State → Prop} {u : State} (e : Err) (h : P u) : EndsIn P (.next (raiseError e u)) :=
  ⟨u, h, .inr (.inr ⟨e, rfl⟩)⟩

theorem EndsIn.mono {P Q : State → Prop} {o : Host.Outcome State Fault Refusal} (h : EndsIn P o)
    (hPQ : ∀ u, P u → Q u) : EndsIn Q o := by
  obtain ⟨u, hu, ho⟩ := h
  exact ⟨u, hPQ u hu, ho⟩

/-- A command whose checks precede its changes ends in its own state or in the result of its body. -/
theorem endCommand_endsIn {P : State → Prop} {s : State} {r : Except Err State} (hs : P s)
    (hr : ∀ t, r = .ok t → P t) : EndsIn P (endCommand s r) := by
  obtain ⟨t, hok, he⟩ | ⟨e, -, he⟩ := endCommand_cases s r
  · exact he ▸ .complete (hr t hok)
  · exact he ▸ .raise e hs

/-- An end of a command keeps every field but SEQ, STATUS, the error report and the count of free values. -/
theorem EndsIn.next {P : State → Prop} {o : Host.Outcome State Fault Refusal} {t : State} (h : EndsIn P o)
    (ht : o = .next t) :
    ∃ u, P u ∧ t = { u with
      seq := .idle, status := t.status, errCmd := t.errCmd, errInfo := t.errInfo, errSub := t.errSub, free := t.free }
    ∧ (t.status = statusDone u.status ∨ t.status = statusNoChange u.status
        ∨ ∃ e : Err, t.status = statusRaise e.kind u.status) := by
  obtain ⟨u, hu, rfl | rfl | ⟨e, rfl⟩⟩ := h <;> cases ht
  · exact ⟨u, hu, rfl, .inl rfl⟩
  · exact ⟨u, hu, rfl, .inr (.inl rfl)⟩
  · exact ⟨u, hu, rfl, .inr (.inr ⟨e, rfl⟩)⟩

/-! Frames. -/

/-- What the work of a command between its start and its end may change: results, streams and structures. The host's
registers, STATUS and the model's own fields stay, and the streams stay within their bounds. -/
structure Framed (s u : State) : Prop where
  frame : { s with
    res0 := u.res0, res1 := u.res1, bin := u.bin, bout := u.bout, sin := u.sin, sout := u.sout,
    spl := u.spl, cat := u.cat, cer := u.cer } = u
  streams : StreamsOk s → StreamsOk u

theorem Framed.refl (s : State) : Framed s s := ⟨rfl, id⟩

theorem Framed.trans {s t u : State} (h : Framed s t) (k : Framed t u) : Framed s u := by
  refine ⟨?_, fun hs => k.streams (h.streams hs)⟩
  rw [← k.frame, ← h.frame]

/-- A frame that changes results and structures, and no stream. -/
theorem Framed.of_structures {s u : State}
    (h : { s with res0 := u.res0, res1 := u.res1, spl := u.spl, cat := u.cat, cer := u.cer } = u) : Framed s u := by
  constructor
  · rw [← h]
  · rw [← h]
    exact id

/-- What a command that uses no structure may change: results and streams. -/
structure StreamWork (s u : State) : Prop where
  frame : { s with
    res0 := u.res0, res1 := u.res1, bin := u.bin, bout := u.bout, sin := u.sin, sout := u.sout } = u
  streams : StreamsOk s → StreamsOk u

theorem StreamWork.refl (s : State) : StreamWork s s := ⟨rfl, id⟩

theorem StreamWork.framed {s u : State} (h : StreamWork s u) : Framed s u := by
  refine ⟨?_, h.streams⟩
  rw [← h.frame]

theorem StreamWork.structures {s u : State} (h : StreamWork s u) : u.spl = s.spl ∧ u.cat = s.cat ∧ u.cer = s.cer := by
  rw [← h.frame]
  exact ⟨rfl, rfl, rfl⟩

/-- A command body whose results are all stream work. -/
def BodyStreamWork (s : State) (r : Except Err State) : Prop := ∀ t, r = .ok t → StreamWork s t

theorem BodyStreamWork.endsIn {s : State} {r : Except Err State} (h : BodyStreamWork s r) :
    EndsIn (StreamWork s) (endCommand s r) := endCommand_endsIn (.refl s) h

/-- A body behind a check or a computation. -/
theorem BodyStreamWork.bind {α : Type} {s : State} {x : Except Err α} {k : α → Except Err State}
    (h : ∀ a, x = .ok a → BodyStreamWork s (k a)) : BodyStreamWork s (x >>= k) := by
  intro t ht
  obtain ⟨a, ha, ht⟩ := (except_bind_ok _ _ _).mp ht
  exact h a ha t ht

theorem BodyStreamWork.pure {s u : State} (h : StreamWork s u) : BodyStreamWork s (.ok u) := by
  intro t ht
  cases ht
  exact h

theorem BodyStreamWork.raised {s : State} {e : Err} : BodyStreamWork s (.error e) := by
  intro t ht
  cases ht

/-! Stream work by the streams it touches. -/

theorem streamWork_results (s : State) (r0 r1 : Word) : StreamWork s { s with res0 := r0, res1 := r1 } := ⟨rfl, id⟩

/-- Streams replaced by streams that are within their bounds whenever the old ones are. -/
theorem streamWork_streams (s : State) (r0 r1 : Word) {b b' : Bits} {q q' : List Int}
    (hb : BitsFit s.bin → BitsFit b) (hb' : BitsFit s.bout → BitsFit b') (hq : SeqFit s.sin → SeqFit q)
    (hq' : SeqFit s.sout → SeqFit q') :
    StreamWork s { s with res0 := r0, res1 := r1, bin := b, bout := b', sin := q, sout := q' } := by
  refine ⟨rfl, fun h => ?_⟩
  obtain ⟨h1, h2, h3, h4⟩ := (streamsOk_iff s).mp h
  exact (streamsOk_iff _).mpr ⟨hb h1, hb' h2, hq h3, hq' h4⟩

/-! Universal codes. -/

theorem ucEnc_streamWork (c : Codec) (d : Dom) (s : State) : BodyStreamWork s (ucEnc c d s) :=
  .bind fun _ _ => .bind fun _ hb => .pure (streamWork_streams s _ _ id (encodeOne_fits hb) id id)

theorem ucDec_streamWork (c : Codec) (d : Dom) (s : State) : BodyStreamWork s (ucDec c d s) := by
  refine .bind fun _ _ => ?_
  cases hd : decCode c (boundArg s) s.bin with
  | error st => exact .raised
  | ok p =>
    obtain ⟨r, rest⟩ := p
    exact .bind fun _ _ => .pure
      (streamWork_streams s _ _ (·.suffix (decCode_suffix c _ _ _ _ hd)) id id id)

theorem ucEncSeq_streamWork (c : Codec) (d : Dom) (s : State) : BodyStreamWork s (ucEncSeq c d s) :=
  .bind fun _ _ => .bind fun _ hb =>
    .pure (streamWork_streams s _ _ id (foldlM_keeps encodeOne_fits hb) (fun _ => seqFit_nil) id)

theorem ucDecSeq_streamWork (c : Codec) (d : Dom) (s : State) : BodyStreamWork s (ucDecSeq c d s) :=
  .bind fun _ _ => .bind fun _ hq =>
    .pure (streamWork_streams s _ _ (fun _ => bitsFit_nil) id id (decSeqFrom_fits hq))

/-! Transforms. -/

theorem xfSeq_streamWork {f : List Int → List Int → Except Err (List Int)} (s : State)
    (hf : ∀ {q q'}, f s.sin q = .ok q' → SeqFit q → SeqFit q') : BodyStreamWork s (xfSeq f s) :=
  .bind fun _ hq => .pure (streamWork_streams s _ _ id id (fun _ => seqFit_nil) (hf hq))

/-- An element pushed behind a check. -/
theorem checkedPush_fits {x : Except Err Unit} {v : Int} {q q' : List Int}
    (h : (do x; seqPush q v : Except Err (List Int)) = .ok q') (hq : SeqFit q) : SeqFit q' := by
  obtain ⟨_, -, h⟩ := (except_bind_ok _ _ _).mp h
  exact seqPush_fits h hq

theorem xfFocused_streamWork (g : Int → Int → Int) (s : State) : BodyStreamWork s (xfFocused g s) :=
  .bind fun _ _ => xfSeq_streamWork s fun h => foldlM_keeps checkedPush_fits h

theorem havenEnc_streamWork (c : Codec) (s : State) : BodyStreamWork s (havenEnc c s) :=
  .bind fun _ _ => .bind fun _ _ => .bind fun _ hb =>
    .pure (streamWork_streams s _ _ id (havenEncFrom_fits hb) (fun _ => seqFit_nil) id)

theorem havenDec_streamWork (c : Codec) (s : State) : BodyStreamWork s (havenDec c s) :=
  .bind fun _ _ => .bind fun _ _ => .bind fun _ hq =>
    .pure (streamWork_streams s _ _ (fun _ => bitsFit_nil) id id (havenDecFrom_fits hq))

/-- The ruler transforms push their whole result after a check of every element. -/
theorem checkedPushAll_fits {x : Except Err PUnit} {vs : List Int} {q q' : List Int}
    (h : (do x; seqPushAll q vs : Except Err (List Int)) = .ok q') (hq : SeqFit q) : SeqFit q' := by
  obtain ⟨_, -, h⟩ := (except_bind_ok _ _ _).mp h
  exact seqPushAll_fits h hq

theorem execXfTsume_streamWork (s : State) : EndsIn (StreamWork s) (execXfTsume s) :=
  BodyStreamWork.endsIn <| .bind fun _ hb =>
    .pure (streamWork_streams s _ _ id (tsumEncFrom_fits hb) (fun _ => seqFit_nil) id)

theorem execXfTsumd_streamWork (s : State) : EndsIn (StreamWork s) (execXfTsumd s) :=
  BodyStreamWork.endsIn <| .bind fun _ h =>
    .pure (streamWork_streams s _ _ (·.suffix (tsumDecFrom_fits h).1) id id (tsumDecFrom_fits h).2)

theorem execXfPald_streamWork (s : State) : EndsIn (StreamWork s) (execXfPald s) := by
  refine (xfSeq_streamWork s fun {q q'} h hq => ?_).endsIn
  cases hs : s.sin with
  | nil => simp [hs] at h
  | cons k es =>
    simp only [hs, except_bind_ok] at h
    obtain ⟨-, -, p, -, h⟩ := h
    exact foldlM_keeps checkedPush_fits h hq

/-- XF.FLRE and XF.MEDE: nothing for an empty sequence, else a whole result pushed. -/
theorem heading_fits {g : Int → List Int → List Int} {xs q q' : List Int}
    (h : (match xs with
      | [] => .ok q
      | x :: rest => seqPushAll q (g x rest) : Except Err (List Int)) = .ok q') (hq : SeqFit q) : SeqFit q' := by
  cases xs with
  | nil => cases h; exact hq
  | cons x rest => exact seqPushAll_fits h hq

/-- XF.FLRD and XF.MEDD: a first element, then one residual after the other. -/
theorem residuals_fit {g : Int → Int → Int} {es q q' : List Int}
    (h : (match es with
      | [] => .ok q
      | f :: rest => rest.foldlM (residualPush (g f)) q : Except Err (List Int)) = .ok q') (hq : SeqFit q) :
    SeqFit q' := by
  cases es with
  | nil => cases h; exact hq
  | cons f rest => exact foldlM_keeps checkedPush_fits h hq

/-! Reads of the structures, and control. -/

/-- A stream that is emptied or kept. -/
theorem flushed_fits {α : Type} {P : List α → Prop} (hnil : P []) {l : List α} (c : Bool) (h : P l) :
    P (if c then [] else l) := by
  cases c with
  | false => exact h
  | true => exact hnil

theorem execCtlFlush_streamWork (m : BitVec 8) (s : State) : EndsIn (StreamWork s) (execCtlFlush m s) :=
  BodyStreamWork.endsIn <| .bind fun _ _ => .pure <| streamWork_streams s _ _
    (flushed_fits bitsFit_nil _) (flushed_fits bitsFit_nil _) (flushed_fits seqFit_nil _) (flushed_fits seqFit_nil _)

theorem execCatClamp_streamWork (s : State) : EndsIn (StreamWork s) (execCatClamp s) := by
  unfold execCatClamp
  split
  · exact .raise _ (.refl s)
  · dsimp only
    split
    · exact .complete (streamWork_results s _ _)
    · split
      · exact .complete (streamWork_results s _ _)
      · exact .noChange (streamWork_results s _ _)

theorem execSplBone_streamWork (s : State) : EndsIn (StreamWork s) (execSplBone s) := by
  refine BodyStreamWork.endsIn <| .bind fun _ _ => ?_
  cases hb : boneAt s.spl.bones (zext s.arg0) with
  | none => exact .pure (streamWork_results s _ _)
  | some y => exact .pure (streamWork_results s _ _)

/-- A list pushed to SOUT and a count in RES0. -/
theorem pushed_streamWork (s : State) (vs : List Int) (r0 : Word) :
    BodyStreamWork s (do let sout ← seqPushAll s.sout vs; pure { s with sout := sout, res0 := r0 }) :=
  .bind fun _ hq => .pure (streamWork_streams s _ _ id id id (seqPushAll_fits hq))

/-! Dispatch. -/

/-- The commands that may change a structure: the catalogue, the Spline with its caches, or the CER. -/
def usesStructures : Instr → Bool
  | .ctlSreset | .ctlCinv | .catInit | .catElim | .catElimcol | .catImpmin | .catImpmax | .splInit | .splSet | .splPred
  | .splPredall | .cerInit | .cerRun | .cerBlock | .cerFill | .cerEncblk | .cerDecblk | .cerScore => true
  | _ => false

/-- Every other command is stream work. -/
theorem exec_streamWork {i : Instr} (h : usesStructures i = false) (s : State) : EndsIn (StreamWork s) (exec i s) := by
  cases i with
  | ctlNop => exact (BodyStreamWork.pure (.refl s)).endsIn
  | ctlFlush m => exact execCtlFlush_streamWork m s
  | encUnary d | encGamma d | encDelta d | encFib d | encTrib d | encEnb4 d | encEnb5 d | encEnb6 d | encEnb7 d
  | encEnb8 d | encGfib d | encDfib d | encGiota d | encDiota d => exact (ucEnc_streamWork _ d s).endsIn
  | decUnary d | decGamma d | decDelta d | decFib d | decTrib d | decEnb4 d | decEnb5 d | decEnb6 d | decEnb7 d
  | decEnb8 d | decGfib d | decDfib d | decGiota d | decDiota d => exact (ucDec_streamWork _ d s).endsIn
  | encseqUnary d | encseqGamma d | encseqDelta d | encseqFib d | encseqTrib d | encseqEnb4 d | encseqEnb5 d
  | encseqEnb6 d | encseqEnb7 d | encseqEnb8 d | encseqGfib d | encseqDfib d | encseqGiota d | encseqDiota d =>
    exact (ucEncSeq_streamWork _ d s).endsIn
  | decseqUnary d | decseqGamma d | decseqDelta d | decseqFib d | decseqTrib d | decseqEnb4 d | decseqEnb5 d
  | decseqEnb6 d | decseqEnb7 d | decseqEnb8 d | decseqGfib d | decseqDfib d | decseqGiota d | decseqDiota d =>
    exact (ucDecSeq_streamWork _ d s).endsIn
  | xfHaveneUnary | xfHaveneGamma | xfHaveneDelta | xfHaveneFib | xfHaveneTrib | xfHaveneEnb4 | xfHaveneEnb5
  | xfHaveneEnb6 | xfHaveneEnb7 | xfHaveneEnb8 | xfHaveneGfib | xfHaveneDfib | xfHaveneGiota | xfHaveneDiota =>
    exact (havenEnc_streamWork _ s).endsIn
  | xfHavendUnary | xfHavendGamma | xfHavendDelta | xfHavendFib | xfHavendTrib | xfHavendEnb4 | xfHavendEnb5
  | xfHavendEnb6 | xfHavendEnb7 | xfHavendEnb8 | xfHavendGfib | xfHavendDfib | xfHavendGiota | xfHavendDiota =>
    exact (havenDec_streamWork _ s).endsIn
  | xfDeltae | xfDeltad | xfZze | xfPale => exact (xfSeq_streamWork s seqPushAll_fits).endsIn
  | xfZzd => exact (xfSeq_streamWork s (foldlM_keeps checkedPush_fits)).endsIn
  | xfFzze | xfFzzd => exact (xfFocused_streamWork _ s).endsIn
  | xfRulere | xfRulerd => exact (xfSeq_streamWork s checkedPushAll_fits).endsIn
  | xfTsume => exact execXfTsume_streamWork s
  | xfTsumd => exact execXfTsumd_streamWork s
  | xfPald => exact execXfPald_streamWork s
  | xfFlre => exact (xfSeq_streamWork s
      (heading_fits (g := fun x rest => listMin x rest :: (x :: rest).map (fun e => e - listMin x rest)))).endsIn
  | xfMede => exact (xfSeq_streamWork s (heading_fits (g := fun x rest =>
      lowerMedian (x :: rest) :: (x :: rest).map (fun e => zigZag (e - lowerMedian (x :: rest)))))).endsIn
  | xfFlrd => exact (xfSeq_streamWork s (residuals_fit (g := fun f e => e + f))).endsIn
  | xfMedd => exact (xfSeq_streamWork s (residuals_fit (g := fun m e => unZigZag e + m))).endsIn
  | catCount | catStatus | catLimits =>
    exact BodyStreamWork.endsIn (.bind fun _ _ => .pure (streamWork_results s _ _))
  | catExtreme | splSurr => exact BodyStreamWork.endsIn (.bind fun _ _ => pushed_streamWork s _ _)
  | catClamp => exact execCatClamp_streamWork s
  | splBone => exact execSplBone_streamWork s
  | cerPress | cerPlain => exact (pushed_streamWork s _ _).endsIn
  | ctlSreset | ctlCinv | catInit | catElim | catElimcol | catImpmin | catImpmax | splInit | splSet | splPred
  | splPredall | cerInit | cerRun | cerBlock | cerFill | cerEncblk | cerDecblk | cerScore => cases h

end Sys2Proof.Machine
end

section
/-! Catalogue and Spline keep their invariants: what each shared function does to a column, a bone and the caches. -/

namespace Sys2Proof.Machine

/-! Columns of a catalogue. -/

/-- A column that is not resolved is inside the catalogue: the default of `columnAt` is a resolved one. -/
theorem lt_length_of_unresolved {cat : Catalogue} {x : Nat} (h : (columnAt cat x).rsv = false) :
    x < cat.cols.length := by
  by_contra hx
  have hnone : cat.cols[x]? = none := List.getElem?_eq_none (Nat.le_of_not_lt hx)
  simp [columnAt, List.getD_eq_getElem?_getD, hnone, resolvedColumn] at h

theorem columnAt_eq_getElem {cat : Catalogue} {x : Nat} (h : x < cat.cols.length) : columnAt cat x = cat.cols[x] := by
  simp [columnAt, List.getD_eq_getElem?_getD, h]

theorem columnAt_ok {cat : Catalogue} {x : Nat} (h : CatOk cat) (hx : x < cat.cols.length) :
    ColumnOk cat.v (columnAt cat x) := by
  obtain ⟨-, -, hcols⟩ := h
  rw [columnAt_eq_getElem hx]
  exact hcols _ (List.getElem_mem hx)

theorem columnAt_setColumn {cat : Catalogue} {x : Nat} (hx : x < cat.cols.length) (c : Column) (z : Nat) :
    columnAt (setColumn cat x c) z = if z = x then c else columnAt cat z := by
  split
  · subst z
    simp [columnAt, setColumn, List.getD_eq_getElem?_getD, hx]
  · rename_i hne
    simp [columnAt, setColumn, List.getD_eq_getElem?_getD, List.getElem?_set_ne (Ne.symm hne)]

theorem setColumn_ok {cat : Catalogue} {c : Column} (x : Nat) (h : CatOk cat) (hc : ColumnOk cat.v c) :
    CatOk (setColumn cat x c) := by
  obtain ⟨hlen, hgeo, hcols⟩ := h
  refine ⟨by simpa [setColumn] using hlen, hgeo, fun d hd => ?_⟩
  rcases List.mem_or_eq_of_mem_set hd with hd | rfl
  · exact hcols d hd
  · exact hc

theorem catOk_map {cat : Catalogue} {g : Column → Column} (h : CatOk cat)
    (hg : ∀ c ∈ cat.cols, ColumnOk cat.v c → ColumnOk cat.v (g c)) : CatOk { cat with cols := cat.cols.map g } := by
  obtain ⟨hlen, hgeo, hcols⟩ := h
  refine ⟨by simpa using hlen, hgeo, fun d hd => ?_⟩
  obtain ⟨c, hc, rfl⟩ := List.mem_map.mp hd
  exact hg c hc (hcols c hc)

theorem freshCatalogue_ok {n v : Nat} (h : GeometryOk n v) : CatOk (freshCatalogue n v) := by
  refine ⟨by simp [freshCatalogue], fun _ => h, fun c hc => ?_⟩
  obtain ⟨-, -, hv, -⟩ := h
  obtain ⟨-, rfl⟩ := List.mem_replicate.mp hc
  exact ⟨le_refl _, by simp [freshColumn]; omega, le_refl _, nofun⟩

theorem resolvedColumn_ok {n : Nat} {v : Int} (h0 : 0 ≤ v) (hn : v < n) : ColumnOk n (resolvedColumn v) :=
  ⟨by simp [resolvedColumn]; omega, by simp [resolvedColumn]; omega, by simp [resolvedColumn]; omega,
    fun _ => by simp [resolvedColumn]; ring⟩

/-- The number of UNKNOWN cells of a sound column, without its clamp at 0. -/
theorem unknownCount_of_ok {n : Nat} {c : Column} (h : ColumnOk n c) : unknownCount c = c.hi - c.lo - 1 := by
  obtain ⟨-, h2, -⟩ := h
  unfold unknownCount
  omega

/-- Eliminate takes one cell off one end of an unresolved column that has another one. -/
theorem eliminate_effect {cat cat' : Catalogue} {x : Nat} {y : Int} {crit : Bool} (hok : CatOk cat)
    (h : eliminate cat x y = .ok (cat', crit)) :
    ∃ c', cat' = setColumn cat x c' ∧ x < cat.cols.length ∧ (columnAt cat x).rsv = false ∧ c'.rsv = false
      ∧ ColumnOk cat.v c' ∧ crit = (unknownCount c' == 1) ∧ unknownCount c' = unknownCount (columnAt cat x) - 1
      ∧ (y = (columnAt cat x).lo + 1 ∧ c'.lo = y ∧ c'.hi = (columnAt cat x).hi
          ∨ y ≠ (columnAt cat x).lo + 1 ∧ y = (columnAt cat x).hi - 1 ∧ c'.lo = (columnAt cat x).lo ∧ c'.hi = y) := by
  obtain ⟨hrsv, hne, c', hside, hcat, hcrit⟩ := eliminate_ok cat x y cat' crit h
  have hx := lt_length_of_unresolved hrsv
  have hcol := columnAt_ok hok hx
  have hcount := unknownCount_of_ok hcol
  obtain ⟨hlo, hgap, hhi, -⟩ := hcol
  rw [hcount] at hne
  have hc' : ColumnOk cat.v c' ∧ c'.rsv = false := by
    obtain ⟨hy, rfl⟩ | ⟨-, hy, rfl⟩ := hside
    · exact ⟨⟨by dsimp only; omega, by dsimp only; omega, hhi, by simp [hrsv]⟩, hrsv⟩
    · exact ⟨⟨hlo, by dsimp only; omega, by dsimp only; omega, by simp [hrsv]⟩, hrsv⟩
  refine ⟨c', hcat, hx, hrsv, hc'.2, hc'.1, hcrit, ?_, ?_⟩
  · rw [unknownCount_of_ok hc'.1, hcount]
    obtain ⟨hy, rfl⟩ | ⟨-, hy, rfl⟩ := hside <;> dsimp only <;> omega
  · obtain ⟨hy, rfl⟩ | ⟨hy, hy', rfl⟩ := hside
    · exact .inl ⟨hy, rfl, rfl⟩
    · exact .inr ⟨hy, hy', rfl, rfl⟩

theorem eliminate_catOk {cat cat' : Catalogue} {x : Nat} {y : Int} {crit : Bool}
    (h : eliminate cat x y = .ok (cat', crit)) (hok : CatOk cat) : CatOk cat' := by
  obtain ⟨c', rfl, -, -, -, hc, -⟩ := eliminate_effect hok h
  exact setColumn_ok x hok hc

theorem eliminateColumn_catOk {cat cat' : Catalogue} {x : Nat} {v : Int} (h : eliminateColumn cat x v = .ok cat')
    (hok : CatOk cat) : CatOk cat' := by
  obtain ⟨hrsv, hlo, hhi, rfl⟩ := eliminateColumn_ok cat cat' x v h
  obtain ⟨h1, -, h3, -⟩ := columnAt_ok hok (lt_length_of_unresolved hrsv)
  exact setColumn_ok x hok (resolvedColumn_ok (by omega) (by omega))

/-- With no offender every unresolved column keeps at least four UNKNOWN cells. -/
theorem imposeOffenders_nil {cols : List Column} (h : imposeOffenders cols = []) :
    ∀ c ∈ cols, c.rsv = false → 4 < c.hi - c.lo := by
  intro c hc hr
  obtain ⟨i, hi, rfl⟩ := List.getElem_of_mem hc
  unfold imposeOffenders at h
  rw [List.map_eq_nil_iff, List.filter_eq_nil_iff] at h
  have hi' := h (cols[i], i) (by simp [List.mem_zipIdx_iff_getElem?, List.getElem?_eq_getElem hi])
  simp only [hr, Bool.not_false, Bool.true_and, decide_eq_true_eq] at hi'
  omega

theorem impose_catOk {g : Column → Column} {cat cat' : Catalogue} (h : impose g cat = .ok cat')
    (hg : ∀ c, ColumnOk cat.v c → ((g c).rsv = false → 4 < (g c).hi - (g c).lo) → ColumnOk cat.v (g c))
    (hok : CatOk cat) : CatOk cat' := by
  unfold impose at h
  split at h
  · rename_i hnil
    cases h
    exact catOk_map hok fun c hc hcol =>
      hg c hcol (imposeOffenders_nil hnil (g c) (List.mem_map_of_mem hc))
  · cases h

theorem imposeMinColumn_ok {n : Nat} {y : Nat} {c : Column} (hc : ColumnOk n c)
    (h : (imposeMinColumn y c).rsv = false → 4 < (imposeMinColumn y c).hi - (imposeMinColumn y c).lo) :
    ColumnOk n (imposeMinColumn y c) := by
  cases hr : c.rsv with
  | true => simpa [imposeMinColumn, hr] using hc
  | false =>
    have heq : imposeMinColumn y c = { c with lo := max c.lo (y - 1) } := by simp [imposeMinColumn, hr]
    obtain ⟨h1, h2, h3, -⟩ := hc
    rw [heq] at h ⊢
    have hroom := h hr
    refine ⟨?_, ?_, ?_, fun hr' => absurd (hr.symm.trans hr') nofun⟩ <;> dsimp only at * <;> omega

theorem imposeMaxColumn_ok {n : Nat} {y : Nat} {c : Column} (hc : ColumnOk n c)
    (h : (imposeMaxColumn y c).rsv = false → 4 < (imposeMaxColumn y c).hi - (imposeMaxColumn y c).lo) :
    ColumnOk n (imposeMaxColumn y c) := by
  cases hr : c.rsv with
  | true => simpa [imposeMaxColumn, hr] using hc
  | false =>
    have heq : imposeMaxColumn y c = { c with hi := min c.hi (y + 1) } := by simp [imposeMaxColumn, hr]
    obtain ⟨h1, h2, h3, -⟩ := hc
    rw [heq] at h ⊢
    have hroom := h hr
    refine ⟨?_, ?_, ?_, fun hr' => absurd (hr.symm.trans hr') nofun⟩ <;> dsimp only at * <;> omega

/-! Counting the unresolved columns. -/

/-- A column's part of the number of unresolved columns. -/
def openCount (c : Column) : Int := if c.rsv then 0 else 1

/-- A column's part of the eliminations still possible. -/
def elimCount (c : Column) : Int := if c.rsv then 0 else unknownCount c - 1

theorem unresolvedCount_eq_sum (cat : Catalogue) : (unresolvedCount cat : Int) = (cat.cols.map openCount).sum := by
  unfold unresolvedCount
  induction cat.cols with
  | nil => rfl
  | cons c cols ih => cases hr : c.rsv <;> simp [openCount, hr, ← ih, Int.add_comm]

theorem remainingElims_eq_sum (cat : Catalogue) : remainingElims cat = (cat.cols.map elimCount).sum := by
  unfold remainingElims
  induction cat.cols with
  | nil => rfl
  | cons c cols ih => cases hr : c.rsv <;> simp [elimCount, hr, ← ih]

/-- A sum over the columns after one is replaced. -/
theorem sum_setColumn (f : Column → Int) {cat : Catalogue} {x : Nat} (hx : x < cat.cols.length) (c : Column) :
    ((setColumn cat x c).cols.map f).sum = (cat.cols.map f).sum - f (columnAt cat x) + f c := by
  have hx' : x < (cat.cols.map f).length := by simpa using hx
  rw [setColumn, List.map_set, List.sum_set', dif_pos hx', List.getElem_map, columnAt_eq_getElem hx]
  ring

theorem unresolvedCount_setColumn {cat : Catalogue} {x : Nat} (hx : x < cat.cols.length) (c : Column) :
    (unresolvedCount (setColumn cat x c) : Int) = unresolvedCount cat - openCount (columnAt cat x) + openCount c := by
  rw [unresolvedCount_eq_sum, unresolvedCount_eq_sum, sum_setColumn openCount hx]

theorem remainingElims_setColumn {cat : Catalogue} {x : Nat} (hx : x < cat.cols.length) (c : Column) :
    remainingElims (setColumn cat x c) = remainingElims cat - elimCount (columnAt cat x) + elimCount c := by
  rw [remainingElims_eq_sum, remainingElims_eq_sum, sum_setColumn elimCount hx]

/-- With no unresolved column there is nothing left to count. -/
theorem counts_of_all_resolved {cat : Catalogue} (h : ∀ x < cat.cols.length, (columnAt cat x).rsv = true) :
    unresolvedCount cat = 0 ∧ remainingElims cat = 0 := by
  have hnone : cat.cols.filter (fun c => !c.rsv) = [] := by
    rw [List.filter_eq_nil_iff]
    intro c hc
    obtain ⟨i, hi, rfl⟩ := List.getElem_of_mem hc
    simpa [columnAt_eq_getElem hi] using h i hi
  simp [unresolvedCount, remainingElims, hnone]

/-! Caches of a Spline. -/

/-- A change of a Spline that leaves its bones and geometry, and keeps its invariant and the form of its value cache. -/
structure SameBones (spl spl' : Spline) : Prop where
  frame : { spl with loc := spl'.loc, dist := spl'.dist, vc := spl'.vc } = spl'
  sound : SplineOk spl → SplineOk spl'
  form : CacheFormOk spl → CacheFormOk spl'

theorem SameBones.refl (spl : Spline) : SameBones spl spl := ⟨rfl, id, id⟩

theorem SameBones.trans {a b c : Spline} (h : SameBones a b) (k : SameBones b c) : SameBones a c := by
  refine ⟨?_, fun ha => k.sound (h.sound ha), fun ha => k.form (h.form ha)⟩
  rw [← k.frame, ← h.frame]

theorem SameBones.fields {a b : Spline} (h : SameBones a b) :
    b.valid = a.valid ∧ b.n = a.n ∧ b.v = a.v ∧ b.bones = a.bones := by
  rw [← h.frame]
  exact ⟨rfl, rfl, rfl, rfl⟩

theorem vcStore_sorted (e : VcEntry) (l : List VcEntry) (h : l.Pairwise (fun a b => vcLt a b = true)) :
    (vcStore e l).Pairwise (fun a b => vcLt a b = true) := by
  unfold vcStore
  split
  · exact List.pairwise_singleton ..
  · exact vcInsert_sorted e l h

theorem predict_sameBones (spl : Spline) (x : Nat) : SameBones spl (predict spl x).2 := by
  unfold predict
  split
  · exact .refl spl
  · split
    · rename_i hen
      split
      · exact .refl spl
      · exact ⟨rfl, id, fun ⟨hs, hl, _⟩ =>
          ⟨vcStore_sorted _ _ hs, vcStore_length _ _ hl, fun hdis => absurd (hen.symm.trans hdis) nofun⟩⟩
    · exact .refl spl

/-- LOC and DIST are computed from the bones, so their invariants hold after it. -/
theorem refreshLocations_ok {spl : Spline}
    (h : spl.valid = true → GeometryOk spl.n spl.v ∧ MethodOk spl.cfg ∧ BonesOk spl.n spl.v spl.bones) :
    SplineOk (refreshLocations spl) := fun hv =>
  ⟨(h hv).1, (h hv).2.1, (h hv).2.2, rfl, rfl⟩

theorem invalidateCaches_sameBones (spl : Spline) : SameBones spl (invalidateCaches spl) := by
  unfold invalidateCaches
  split
  · refine ⟨rfl, fun h => refreshLocations_ok fun hv => ?_, fun ⟨hs, hl, hd⟩ => ?_⟩
    · obtain ⟨hg, hm, hb, -⟩ := h hv
      exact ⟨hg, hm, hb⟩
    · cases hen : spl.vcEn with
      | false => exact ⟨by simpa [refreshLocations, hen] using hs, by simpa [refreshLocations, hen] using hl,
          by simpa [refreshLocations, hen] using hd hen⟩
      | true => exact ⟨by simp [refreshLocations], by simp [refreshLocations], by simp [refreshLocations]⟩
  · exact .refl spl

/-! Bones. -/

theorem boneAt_set {bones : List (Option Int)} {x : Nat} (hx : x < bones.length) (b : Option Int) (z : Nat) :
    boneAt (bones.set x b) z = if z = x then b else boneAt bones z := by
  split
  · subst z
    simp [boneAt, List.getD_eq_getElem?_getD, hx]
  · rename_i hne
    simp [boneAt, List.getD_eq_getElem?_getD, List.getElem?_set_ne (Ne.symm hne)]

theorem installBone_fields (spl : Spline) (x : Nat) (y : Int) :
    (installBone spl x y).valid = spl.valid ∧ (installBone spl x y).n = spl.n ∧ (installBone spl x y).v = spl.v
      ∧ (installBone spl x y).bones = spl.bones.set x (some y) := ⟨rfl, rfl, rfl, rfl⟩

theorem installBone_form {spl : Spline} (x : Nat) (y : Int) (h : CacheFormOk spl) :
    CacheFormOk (installBone spl x y) := by
  obtain ⟨hs, hl, hd⟩ := h
  cases hen : spl.vcEn with
  | false =>
    have hvc : (installBone spl x y).vc = spl.vc := by simp [installBone, refreshLocations, hen]
    exact ⟨hvc ▸ hs, hvc ▸ hl, fun _ => hvc ▸ hd hen⟩
  | true =>
    have hvc : (installBone spl x y).vc = vcDrop (surroundKey spl x) spl.vc := by
      simp [installBone, refreshLocations, hen]
    exact ⟨hvc ▸ vcDrop_sorted _ _ hs, hvc ▸ (List.length_filter_le _ _).trans hl,
      fun hdis => absurd (hen.symm.trans hdis) nofun⟩

theorem bonesOk_set {n v x : Nat} {y : Int} {bones : List (Option Int)} (h : BonesOk n v bones) (hx : x < n)
    (h0 : 0 ≤ y) (hv : y < v) : BonesOk n v (bones.set x (some y)) := by
  obtain ⟨hlen, hfirst, hlast, hrange⟩ := h
  have hset := boneAt_set (hlen ▸ hx) (some y)
  refine ⟨by simpa using hlen, ?_, ?_, fun z w hw => ?_⟩
  · rw [hset]; split <;> simp_all
  · rw [hset]; split <;> simp_all
  · rw [hset] at hw
    split at hw
    · cases hw
      exact ⟨h0, hv⟩
    · exact hrange z w hw

/-- A bone set: inside the array and the range, and it was null or already this one. -/
theorem setBone_keeps {spl spl' : Spline} {x : Nat} {y : Int} (h0 : 0 ≤ y) (h : setBone spl x y = .ok spl') :
    (SplineOk spl → SplineOk spl') ∧ (CacheFormOk spl → CacheFormOk spl') := by
  obtain ⟨hx, hv, ⟨-, rfl⟩ | ⟨-, rfl⟩⟩ := setBone_ok spl spl' x y h
  · refine ⟨fun hok => refreshLocations_ok fun hval => ?_, installBone_form x y⟩
    obtain ⟨hg, hm, hb, -⟩ := hok hval
    exact ⟨hg, hm, bonesOk_set hb hx h0 hv⟩
  · exact ⟨id, id⟩

/-- The Spline's fields after a bone was set: the bone is there, every other one as before. -/
theorem setBone_fields {spl spl' : Spline} {x : Nat} {y : Int} (hlen : spl.bones.length = spl.n)
    (h : setBone spl x y = .ok spl') :
    spl'.valid = spl.valid ∧ spl'.n = spl.n ∧ spl'.v = spl.v
      ∧ ∀ z, boneAt spl'.bones z = if z = x then some y else boneAt spl.bones z := by
  obtain ⟨hx, -, ⟨-, rfl⟩ | ⟨hb, rfl⟩⟩ := setBone_ok spl spl' x y h
  · exact ⟨rfl, rfl, rfl, boneAt_set (hlen ▸ hx) (some y)⟩
  · refine ⟨rfl, rfl, rfl, fun z => ?_⟩
    split
    · subst z
      exact hb
    · rfl

/-! Fresh Splines. -/

theorem checkMethod_ok {cfg : Word} {u : Unit} (h : checkMethod cfg = .ok u) : MethodOk cfg := by
  rw [checkMethod, require_ok] at h
  exact h

theorem requireGeometry_ok {n v : Nat} {u : Unit} (h : requireGeometry n v = .ok u) : GeometryOk n v := by
  simp only [requireGeometry, except_bind_ok, require_ok] at h
  obtain ⟨-, ⟨h1, h2⟩, h3, h4⟩ := h
  exact ⟨h1, h2, h3, h4⟩

theorem endpointValues_ok {endpt v e0 e1 : Nat} {v0 v1 : Int} (hv : 2 ≤ v)
    (h : endpointValues endpt v e0 e1 = .ok (v0, v1)) : (0 ≤ v0 ∧ v0 < v) ∧ 0 ≤ v1 ∧ v1 < v := by
  unfold endpointValues at h
  split at h
  · cases h; omega
  · cases h; omega
  · cases h; omega
  · simp only [except_bind_ok, require_ok] at h
    obtain ⟨-, h0, -, h1, h⟩ := h
    cases h
    omega

theorem freshSpline_fields (n v : Nat) (cfg cache : Word) (v0 v1 : Int) :
    (freshSpline n v cfg cache v0 v1).valid = true ∧ (freshSpline n v cfg cache v0 v1).n = n
      ∧ (freshSpline n v cfg cache v0 v1).v = v
      ∧ (freshSpline n v cfg cache v0 v1).bones = ((List.replicate n none).set 0 (some v0)).set (n - 1) (some v1) :=
  ⟨rfl, rfl, rfl, rfl⟩

/-- The bones of a fresh Spline: the two endpoints. -/
theorem boneAt_endpoints {n : Nat} (hn : 2 ≤ n) (v0 v1 : Int) (x : Nat) :
    boneAt (((List.replicate n none).set 0 (some v0)).set (n - 1) (some v1)) x
      = if x = n - 1 then some v1 else if x = 0 then some v0 else none := by
  rw [boneAt_set (by simp; omega), boneAt_set (by simp; omega)]
  have : boneAt (List.replicate n none) x = none := by
    simp [boneAt, List.getD_eq_getElem?_getD, List.getElem?_replicate]
    split <;> rfl
  rw [this]

theorem freshSpline_ok {n v : Nat} {cfg : Word} (cache : Word) {v0 v1 : Int} (hg : GeometryOk n v) (hm : MethodOk cfg)
    (h0 : 0 ≤ v0 ∧ v0 < v) (h1 : 0 ≤ v1 ∧ v1 < v) : SplineOk (freshSpline n v cfg cache v0 v1) := by
  refine refreshLocations_ok fun _ => ⟨hg, hm, ?_⟩
  have hn : 2 ≤ n := hg.1
  have hb := boneAt_endpoints hn v0 v1
  refine ⟨by simp [installBone, refreshLocations], ?_, ?_, fun x y hxy => ?_⟩
  · intro h
    have h := (hb 0).symm.trans h
    split at h <;> simp at h
  · exact fun h => by simpa using (hb (n - 1)).symm.trans h
  · have hxy := (hb x).symm.trans hxy
    split at hxy
    · cases hxy; exact h1
    · split at hxy
      · cases hxy; exact h0
      · cases hxy

theorem freshSpline_form (n v : Nat) (cfg cache : Word) (v0 v1 : Int) :
    CacheFormOk (freshSpline n v cfg cache v0 v1) := by
  refine installBone_form _ _ (installBone_form _ _ ⟨List.Pairwise.nil, Nat.zero_le _, fun _ => rfl⟩)

end Sys2Proof.Machine
end

section
/-! The run processor: the rankings as the set of their cells, what a run keeps between its eliminations, and that every
run ends in the block's invariant (45_cer.md R284..R295). -/

namespace Sys2Proof.Machine

/-! Rankings as the set of their cells. -/

/-- The rankings are sorted and hold exactly the cells with P, each in one entry. -/
structure RanksCells (rank : List RankEntry) (P : Nat → Int → Prop) : Prop where
  sorted : RankSorted rank
  cells : ∀ x y, Ranked rank x y ↔ P x y
  unique : ∀ e ∈ rank, ∀ f ∈ rank, e.x = f.x → e.y = f.y → e = f

theorem RanksCells.congr {rank : List RankEntry} {P Q : Nat → Int → Prop} (h : RanksCells rank P)
    (hPQ : ∀ x y, P x y ↔ Q x y) : RanksCells rank Q :=
  ⟨h.sorted, fun x y => (h.cells x y).trans (hPQ x y), h.unique⟩

theorem ranksCells_nil : RanksCells [] (fun _ _ => False) := ⟨List.Pairwise.nil, by simp [Ranked], by simp⟩

/-- PopMin takes one cell out. -/
theorem RanksCells.pop {e : RankEntry} {rest : List RankEntry} {P : Nat → Int → Prop} (h : RanksCells (e :: rest) P) :
    P e.x e.y ∧ RanksCells rest (fun x y => P x y ∧ ¬(x = e.x ∧ y = e.y)) := by
  obtain ⟨hsorted, hcells, hone⟩ := h
  obtain ⟨hhead, htail⟩ := List.pairwise_cons.mp hsorted
  refine ⟨(hcells _ _).mp ⟨e, by simp, rfl, rfl⟩, htail, fun x y => ?_, fun f hf g hg => ?_⟩
  · rw [← hcells]
    constructor
    · rintro ⟨f, hf, rfl, rfl⟩
      refine ⟨⟨f, List.mem_cons_of_mem _ hf, rfl, rfl⟩, fun ⟨hx, hy⟩ => ?_⟩
      obtain rfl := hone f (List.mem_cons_of_mem _ hf) e (by simp) hx hy
      exact absurd ((rankLt_irrefl f).symm.trans (hhead f hf)) nofun
    · rintro ⟨⟨f, hf, rfl, rfl⟩, hne⟩
      rcases List.mem_cons.mp hf with rfl | hf
      · exact absurd ⟨rfl, rfl⟩ hne
      · exact ⟨f, hf, rfl, rfl⟩
  · exact hone f (List.mem_cons_of_mem _ hf) g (List.mem_cons_of_mem _ hg)

/-- Insert adds a cell that was not ranked. -/
theorem RanksCells.insert {rank : List RankEntry} {P : Nat → Int → Prop} (h : RanksCells rank P) (e : RankEntry)
    (hnew : ¬P e.x e.y) : RanksCells (rankInsert e rank) (fun x y => P x y ∨ (x = e.x ∧ y = e.y)) := by
  obtain ⟨hsorted, hcells, hone⟩ := h
  have hfresh : ∀ f ∈ rank, ¬(f.x = e.x ∧ f.y = e.y) := fun f hf hxy => hnew ((hcells _ _).mp ⟨f, hf, hxy.1, hxy.2⟩)
  refine ⟨rankInsert_sorted e rank hsorted, fun x y => ?_, fun f hf g hg hx hy => ?_⟩
  · rw [← hcells]
    simp only [Ranked, mem_rankInsert, or_and_right, exists_or, exists_eq_left]
    rw [or_comm, eq_comm (a := e.x), eq_comm (a := e.y)]
  · rcases (mem_rankInsert e f rank).mp hf with hfe | hf <;> rcases (mem_rankInsert e g rank).mp hg with hge | hg
    · exact hfe.trans hge.symm
    · exact absurd ⟨(hfe ▸ hx).symm, (hfe ▸ hy).symm⟩ (hfresh g hg)
    · exact absurd ⟨hge ▸ hx, hge ▸ hy⟩ (hfresh f hf)
    · exact hone f hf g hg hx hy

/-- RemoveCell takes a cell out. -/
theorem RanksCells.remove {rank : List RankEntry} {P : Nat → Int → Prop} (h : RanksCells rank P) (x : Nat) (y : Int) :
    RanksCells (rankRemove x y rank) (fun a b => P a b ∧ ¬(a = x ∧ b = y)) := by
  obtain ⟨hsorted, hcells, hone⟩ := h
  refine ⟨rankRemove_sorted x y rank hsorted, fun a b => ?_, fun f hf g hg => ?_⟩
  · rw [← hcells]
    constructor
    · rintro ⟨f, hf, rfl, rfl⟩
      obtain ⟨hf, hne⟩ := (mem_rankRemove x y f rank).mp hf
      exact ⟨⟨f, hf, rfl, rfl⟩, hne⟩
    · rintro ⟨⟨f, hf, rfl, rfl⟩, hne⟩
      exact ⟨f, (mem_rankRemove x y f rank).mpr ⟨hf, hne⟩, rfl, rfl⟩
  · exact hone f ((mem_rankRemove x y f rank).mp hf).1 g ((mem_rankRemove x y g rank).mp hg).1

/-- A frontier cell of an unresolved column (43_catalogue.md R213). -/
def Frontier (cat : Catalogue) (x : Nat) (y : Int) : Prop :=
  Unresolved cat x ∧ (y = (columnAt cat x).lo + 1 ∨ y = (columnAt cat x).hi - 1)

/-- Every unresolved column has at least two UNKNOWN cells (45_cer.md R291). -/
def TwoUnknown (cat : Catalogue) : Prop := ∀ x, Unresolved cat x → 2 ≤ unknownCount (columnAt cat x)

theorem unresolved_setColumn {cat : Catalogue} {x : Nat} (hlen : cat.cols.length = cat.n) (hx : x < cat.cols.length)
    (c : Column) (z : Nat) :
    Unresolved (setColumn cat x c) z ↔ if z = x then c.rsv = false else Unresolved cat z := by
  unfold Unresolved
  rw [columnAt_setColumn hx]
  split
  · subst z
    exact ⟨And.right, fun h => ⟨hlen ▸ hx, h⟩⟩
  · rfl

theorem frontier_setColumn {cat : Catalogue} {x : Nat} (hlen : cat.cols.length = cat.n) (hx : x < cat.cols.length)
    (c : Column) (a : Nat) (b : Int) :
    Frontier (setColumn cat x c) a b ↔
      if a = x then c.rsv = false ∧ (b = c.lo + 1 ∨ b = c.hi - 1) else Frontier cat a b := by
  unfold Frontier
  rw [unresolved_setColumn hlen hx, columnAt_setColumn hx]
  split <;> rfl

/-! The parts of the block's invariant. -/

/-- The part of the invariant that does not depend on the phase. It holds also where an error is raised. -/
structure Sound (s : State) : Prop where
  cat : CatOk s.cat
  spline : SplineOk s.spl
  form : CacheFormOk s.spl
  rank : RankSorted s.cer.rank

theorem blockInv_iff (s : State) :
    BlockInv s ↔ Sound s ∧ (s.cer.phase = .active → ActiveOk s) ∧ (s.cer.phase = .done → DoneOk s.cer) :=
  ⟨fun ⟨h1, h2, h3, h4, h5⟩ => ⟨⟨h1, h2, h3, h4⟩, h5⟩, fun ⟨⟨h1, h2, h3, h4⟩, h5⟩ => ⟨h1, h2, h3, h4, h5⟩⟩

/-- What SamplesOk asks of one column. -/
def SampleOk (mode : Mode) (c : Column) (bone sample : Option Int) : Prop :=
  if c.rsv then bone = some (c.lo + 1) ∧ sample = some (c.lo + 1)
  else bone = none ∧ (mode = .decode → sample = none)
    ∧ (mode = .encode → ∃ y, sample = some y ∧ isUnknown c y = true)

theorem samplesOk_iff (s : State) :
    SamplesOk s ↔ s.cer.plain.length = s.cer.n
      ∧ ∀ x < s.cer.n, SampleOk s.cer.mode (columnAt s.cat x) (boneAt s.spl.bones x) (plainAt s.cer.plain x) :=
  Iff.rfl

/-- The structures of an ACTIVE block fit together, whatever its rankings and counters are. -/
structure Shape (s : State) : Prop where
  cat : CatOk s.cat
  spline : SplineOk s.spl
  form : CacheFormOk s.spl
  active : s.cer.phase = .active
  splValid : s.spl.valid = true
  catValid : s.cat.valid = true
  splN : s.spl.n = s.cer.n
  catN : s.cat.n = s.cer.n
  splV : s.spl.v = s.cer.v
  catV : s.cat.v = s.cer.v
  samples : SamplesOk s

/-- What a block keeps from its initialisation on, its samples too: everything but the rankings and the counters. -/
structure SameSetup (c d : Cer) : Prop where
  phase : d.phase = c.phase
  mode : d.mode = c.mode
  n : d.n = c.n
  v : d.v = c.v
  plain : d.plain = c.plain

theorem SamplesOk.of_same {s t : State} (h : SamplesOk s) (hspl : t.spl.bones = s.spl.bones) (hcat : t.cat = s.cat)
    (hcer : SameSetup s.cer t.cer) : SamplesOk t := by
  obtain ⟨-, hmode, hn, -, hplain⟩ := hcer
  rw [samplesOk_iff] at *
  rwa [hspl, hcat, hmode, hn, hplain]

/-- The shape depends on nothing but the bones, the catalogue and the CER without its rankings and counters. -/
theorem Shape.of_same {s t : State} (h : Shape s) (hspl : SameBones s.spl t.spl) (hcat : t.cat = s.cat)
    (hcer : SameSetup s.cer t.cer) : Shape t := by
  obtain ⟨hval, hn, hv, hbones⟩ := hspl.fields
  exact {
    cat := hcat ▸ h.cat
    spline := hspl.sound h.spline
    form := hspl.form h.form
    active := hcer.phase.trans h.active
    splValid := hval.trans h.splValid
    catValid := hcat ▸ h.catValid
    splN := by rw [hn, hcer.n, h.splN]
    catN := by rw [hcat, hcer.n, h.catN]
    splV := by rw [hv, hcer.v, h.splV]
    catV := by rw [hcat, hcer.v, h.catV]
    samples := h.samples.of_same hbones hcat hcer }

end Sys2Proof.Machine
end

section
namespace Sys2Proof.Machine

/-! What holds inside a run. -/

/-- The press values against the counters: `p` is the value of this run already read (45_cer.md R285, R295). -/
structure PressOk (p : Option Nat) (c : Cer) : Prop where
  length : c.press.length = c.runIndex + p.toList.length
  sum : c.press.sum + c.s = c.elims + p.getD 0

/-- The columns against the counters (45_cer.md R293, R295). -/
structure ColumnsOk (cat : Catalogue) (c : Cer) : Prop where
  count : c.hits + c.absorbs + unresolvedCount cat + 2 = c.n
  bound : (c.elims : Int) + remainingElims cat ≤ ((c.n : Int) - 2) * ((c.v : Int) - 1)

/-- What holds all through a run. -/
structure InRun (p : Option Nat) (s : State) : Prop where
  shape : Shape s
  press : PressOk p s.cer
  columns : ColumnsOk s.cat s.cer
  hits : s.cer.runIndex = s.cer.hits

/-- What holds at the head of the loop of a run. -/
structure LoopInv (p : Option Nat) (s : State) : Prop where
  inRun : InRun p s
  ranks : RanksCells s.cer.rank (Frontier s.cat)
  two : TwoUnknown s.cat
  unread : s.cer.mode = .encode → p = none

/-- What holds once the least entry e was popped. -/
structure PoppedInv (p : Option Nat) (e : RankEntry) (s : State) : Prop where
  inRun : InRun p s
  frontier : Frontier s.cat e.x e.y
  ranks : RanksCells s.cer.rank (fun x y => Frontier s.cat x y ∧ ¬(x = e.x ∧ y = e.y))
  two : TwoUnknown s.cat

theorem Shape.sound {s : State} (h : Shape s) (hr : RankSorted s.cer.rank) : Sound s :=
  ⟨h.cat, h.spline, h.form, hr⟩

theorem PoppedInv.sound {p : Option Nat} {e : RankEntry} {s : State} (h : PoppedInv p e s) : Sound s :=
  h.inRun.shape.sound h.ranks.sorted

theorem LoopInv.sound {p : Option Nat} {s : State} (h : LoopInv p s) : Sound s :=
  h.inRun.shape.sound h.ranks.sorted

theorem LoopInv.popped {p : Option Nat} {e : RankEntry} {rest : List RankEntry} {s : State} (h : LoopInv p s)
    (hr : s.cer.rank = e :: rest) : PoppedInv p e (popped rest s) := by
  obtain ⟨⟨hshape, hpress, hcols, hhits⟩, hranks, htwo, -⟩ := h
  obtain ⟨hf, hrest⟩ := (hr ▸ hranks : RanksCells (e :: rest) _).pop
  exact {
    inRun := ⟨hshape.of_same (.refl _) rfl ⟨rfl, rfl, rfl, rfl, rfl⟩, ⟨hpress.length, hpress.sum⟩,
      ⟨hcols.count, hcols.bound⟩, hhits⟩
    frontier := hf
    ranks := hrest
    two := htwo }

/-- The invariant of an ACTIVE block is the loop's, with the press values of the runs before. -/
theorem loopInv_of_active {s : State} (h : BlockInv s) (ha : s.cer.phase = .active) :
    LoopInv none { s with cer := { s.cer with s := 0 } } := by
  obtain ⟨⟨hcat, hspl, hform, hsort⟩, hact, -⟩ := (blockInv_iff s).mp h
  obtain ⟨h1, h2, h3, h4, h5, h6, ⟨hcells, hone, htwo⟩, hsam, ⟨hlen, hsum, hcount, hbound⟩, hrun⟩ := hact ha
  exact {
    inRun := ⟨⟨hcat, hspl, hform, ha, h1, h2, h3, h4, h5, h6, hsam.of_same rfl rfl ⟨rfl, rfl, rfl, rfl, rfl⟩⟩,
      ⟨hlen, hsum⟩, ⟨hcount, hbound⟩, hrun⟩
    ranks := ⟨hsort, hcells, hone⟩
    two := htwo
    unread := fun _ => rfl }

/-- A run that ended in a hit leaves the invariant of an ACTIVE block. -/
theorem active_of_ended {s : State} (hshape : Shape s) (hranks : RanksCells s.cer.rank (Frontier s.cat))
    (htwo : TwoUnknown s.cat) (hlen : s.cer.press.length = s.cer.runIndex) (hsum : s.cer.press.sum = s.cer.elims)
    (hcols : ColumnsOk s.cat s.cer) (hhits : s.cer.runIndex = s.cer.hits) : BlockInv s := by
  refine (blockInv_iff s).mpr ⟨hshape.sound hranks.sorted, fun _ => ?_, fun hd => ?_⟩
  · exact ⟨hshape.splValid, hshape.catValid, hshape.splN, hshape.catN, hshape.splV, hshape.catV,
      ⟨hranks.cells, hranks.unique, htwo⟩, hshape.samples, ⟨hlen, hsum, hcols.count, hcols.bound⟩, hhits⟩
  · exact absurd (hshape.active.symm.trans hd) nofun

/-! Press values. -/

/-- A press value read or emitted enters the press data of the run. -/
theorem InRun.tookPress {s : State} (h : InRun none s) (v : Nat) (b : Bits) (q : List Int) :
    InRun (some v) (tookPress v { s with bin := b, sin := q }) := by
  obtain ⟨hshape, ⟨hlen, hsum⟩, ⟨hcount, hbound⟩, hhits⟩ := h
  refine ⟨hshape.of_same (.refl _) rfl ⟨rfl, rfl, rfl, rfl, rfl⟩, ⟨?_, ?_⟩, ⟨hcount, hbound⟩, hhits⟩
  · simpa using hlen
  · simp only [tookPress_cer, List.sum_append, List.sum_singleton, Option.getD_none, Option.getD_some] at hsum ⊢
    omega

/-- NextPress: a value is read from the front of SIN or of BIN and enters the press data (45_cer.md R296). -/
theorem nextPress_ok {s t : State} {v : Nat} (h : nextPress s = .ok (v, t)) :
    ∃ b q, t = tookPress v { s with bin := b, sin := q } ∧ b <:+ s.bin ∧ q <:+ s.sin := by
  unfold nextPress at h
  split at h
  · unfold nextPressSin at h
    cases hq : s.sin with
    | nil => simp [hq, seqPop] at h
    | cons e rest =>
      simp only [hq, seqPop, except_bind_ok] at h
      obtain ⟨-, -, h⟩ := h
      cases h
      exact ⟨s.bin, rest, rfl, List.suffix_rfl, List.suffix_cons ..⟩
  · unfold nextPressBin at h
    split at h
    · cases h
    · simp only [except_bind_ok] at h
      obtain ⟨-, -, h⟩ := h
      split at h
      · cases h
      · rename_i r rest hd
        cases h
        exact ⟨rest, s.sin, rfl, decCode_suffix _ _ _ _ _ hd, List.suffix_rfl⟩

theorem pressOf_ok {p : Option Nat} {s t : State} {v : Nat} (h : pressOf p s = .ok (v, t)) :
    p = some v ∧ t = s
      ∨ p = none ∧ ∃ b q, t = tookPress v { s with bin := b, sin := q } ∧ b <:+ s.bin ∧ q <:+ s.sin := by
  cases p with
  | some w => cases h; exact .inl ⟨rfl, rfl⟩
  | none => exact .inr ⟨rfl, nextPress_ok h⟩

theorem InRun.pressOf {p : Option Nat} {s t : State} {v : Nat} (h : InRun p s) (hp : pressOf p s = .ok (v, t)) :
    InRun (some v) t := by
  obtain ⟨rfl, rfl⟩ | ⟨rfl, b, q, rfl, -, -⟩ := pressOf_ok hp
  · exact h
  · exact h.tookPress v b q

/-- The press values aside, reading one changes nothing of the block. -/
theorem pressOf_same {p : Option Nat} {s t : State} {v : Nat} (hp : pressOf p s = .ok (v, t)) :
    t.spl = s.spl ∧ t.cat = s.cat ∧ t.cer = { s.cer with press := t.cer.press } := by
  obtain ⟨-, rfl⟩ | ⟨-, b, q, rfl, -, -⟩ := pressOf_ok hp <;> exact ⟨rfl, rfl, rfl⟩

theorem emitPress_cases (s : State) :
    (∃ e, emitPress s = .error (e, tookPress s.cer.s s)) ∨ emitPress s = .ok (tookPress s.cer.s s) := by
  unfold emitPress
  dsimp only
  split
  · exact .inl ⟨_, rfl⟩
  · exact .inr rfl

/-! Deciding a hit. -/

/-- In encode the popped cell is compared with the sample; in decode the press value with the count of eliminations. -/
theorem decideHit_ok {p q : Option Nat} {e : RankEntry} {s t : State} {hit : Bool}
    (h : decideHit p e s = .ok (hit, q, t)) :
    s.cer.mode = .encode ∧ q = p ∧ t = s ∧ hit = (plainAt s.cer.plain e.x == some e.y)
      ∨ s.cer.mode = .decode ∧ ∃ v, pressOf p s = .ok (v, t) ∧ q = some v ∧ hit = (v == t.cer.s) := by
  unfold decideHit at h
  split at h
  · rename_i hm
    cases h
    exact .inl ⟨hm, rfl, rfl, rfl⟩
  · rename_i hm
    split at h
    · cases h
    · rename_i v u hv
      cases h
      exact .inr ⟨hm, v, hv, rfl, rfl⟩

/-- An encoding run reads no press value. -/
theorem decideHit_unread {p q : Option Nat} {e : RankEntry} {s t : State} {hit : Bool}
    (h : decideHit p e s = .ok (hit, q, t)) (hun : s.cer.mode = .encode → p = none) :
    t.cer.mode = .encode → q = none := by
  obtain ⟨-, rfl, rfl, -⟩ | ⟨hm, v, hp, -, -⟩ := decideHit_ok h
  · exact hun
  · obtain ⟨-, -, hcer⟩ := pressOf_same hp
    intro he
    rw [hcer] at he
    exact absurd (hm.symm.trans he) nofun

theorem PoppedInv.decideHit {p q : Option Nat} {e : RankEntry} {s t : State} {hit : Bool} (h : PoppedInv p e s)
    (hd : decideHit p e s = .ok (hit, q, t)) : PoppedInv q e t := by
  obtain ⟨-, rfl, rfl, -⟩ | ⟨-, v, hp, rfl, -⟩ := decideHit_ok hd
  · exact h
  · obtain ⟨hspl, hcat, hcer⟩ := pressOf_same hp
    have hrank : t.cer.rank = s.cer.rank := by rw [hcer]
    exact {
      inRun := h.inRun.pressOf hp
      frontier := hcat ▸ h.frontier
      ranks := by rw [hrank, hcat]; exact h.ranks
      two := hcat ▸ h.two }

/-! Resolving a column. -/

/-- Set, EliminateColumn and the sample, each in turn, or an error at one of the two. -/
theorem resolveCell_cases (x : Nat) (v : Int) (s : State) :
    (∃ e, resolveCell x v s = .error (e, s))
      ∨ ∃ spl, setBone s.spl x v = .ok spl
        ∧ ((∃ e, resolveCell x v s = .error (e, { s with spl := spl }))
          ∨ ∃ cat, eliminateColumn s.cat x v = .ok cat ∧ resolveCell x v s = .ok { s with
              spl := spl, cat := cat, cer := { s.cer with plain := s.cer.plain.set x (some v) } }) := by
  unfold resolveCell
  cases hs : setBone s.spl x v with
  | error e => exact .inl ⟨e, rfl⟩
  | ok spl =>
    cases hc : eliminateColumn s.cat x v with
    | error e => exact .inr ⟨spl, rfl, .inl ⟨e, by simp⟩⟩
    | ok cat => exact .inr ⟨spl, rfl, .inr ⟨cat, rfl, by simp⟩⟩

/-- An error while a column is resolved leaves sound structures. -/
theorem resolveCell_error {x : Nat} {v : Int} {s u : State} {e : Err} (h : resolveCell x v s = .error (e, u))
    (h0 : 0 ≤ v) (hs : Sound s) : Sound u := by
  obtain ⟨e', he⟩ | ⟨spl, hspl, ⟨e', he⟩ | ⟨cat, -, he⟩⟩ := resolveCell_cases x v s <;> cases he.symm.trans h
  · exact hs
  · obtain ⟨hsound, hform⟩ := setBone_keeps h0 hspl
    exact ⟨hs.cat, hsound hs.spline, hform hs.form, hs.rank⟩

/-- A resolved column: its value is its bone and its sample, and it counts no more. -/
theorem resolveCell_ok {x : Nat} {v : Int} {s u : State} (h : resolveCell x v s = .ok u) (h0 : 0 ≤ v) (hs : Shape s) :
    Shape u ∧ x < s.cat.cols.length ∧ (columnAt s.cat x).rsv = false ∧ u.cat = setColumn s.cat x (resolvedColumn v)
      ∧ u.cer = { s.cer with plain := s.cer.plain.set x (some v) } := by
  obtain ⟨e', he⟩ | ⟨spl, hspl, ⟨e', he⟩ | ⟨cat, hcat, he⟩⟩ := resolveCell_cases x v s <;> cases he.symm.trans h
  obtain ⟨hplen, hsam⟩ := (samplesOk_iff s).mp hs.samples
  obtain ⟨hclen, -⟩ := hs.cat
  obtain ⟨hrsv, -, -, hcat'⟩ := eliminateColumn_ok s.cat cat x v hcat
  have hx := lt_length_of_unresolved hrsv
  have hxp : x < s.cer.plain.length := by rw [hplen, ← hs.catN, ← hclen]; exact hx
  obtain ⟨-, -, hbones, -⟩ := hs.spline hs.splValid
  obtain ⟨hval, hn, hv, hbone⟩ := setBone_fields hbones.1 hspl
  obtain ⟨hsound, hform⟩ := setBone_keeps h0 hspl
  refine ⟨?_, hx, hrsv, hcat', rfl⟩
  subst hcat'
  exact {
    cat := eliminateColumn_catOk hcat hs.cat
    spline := hsound hs.spline
    form := hform hs.form
    active := hs.active
    splValid := hval.trans hs.splValid
    catValid := hs.catValid
    splN := hn.trans hs.splN
    catN := hs.catN
    splV := hv.trans hs.splV
    catV := hs.catV
    samples := by
      refine (samplesOk_iff _).mpr ⟨by simpa using hplen, fun z hz => ?_⟩
      have hplain : plainAt (s.cer.plain.set x (some v)) z = if z = x then some v else plainAt s.cer.plain z :=
        boneAt_set hxp (some v) z
      dsimp only at hz ⊢
      rw [hbone, hplain, columnAt_setColumn hx]
      split
      · simp [SampleOk, resolvedColumn]
      · exact hsam z hz }

/-- The counts of the columns after one is resolved. -/
theorem counts_resolved {cat : Catalogue} {x : Nat} (hx : x < cat.cols.length) (hr : (columnAt cat x).rsv = false)
    (v : Int) :
    unresolvedCount (setColumn cat x (resolvedColumn v)) + 1 = unresolvedCount cat
      ∧ remainingElims (setColumn cat x (resolvedColumn v)) = remainingElims cat - (unknownCount (columnAt cat x) - 1) := by
  have hopen := unresolvedCount_setColumn hx (resolvedColumn v)
  have helim := remainingElims_setColumn hx (resolvedColumn v)
  have hres : (resolvedColumn v).rsv = true := rfl
  simp only [openCount, elimCount, hr, hres, if_true, Bool.false_eq_true, if_false] at hopen helim
  omega

/-- The frontier without the column that is resolved is the frontier after it is. -/
theorem frontier_resolved {cat : Catalogue} {x : Nat} (hlen : cat.cols.length = cat.n) (hx : x < cat.cols.length) (v : Int)
    (a : Nat) (b : Int) : Frontier (setColumn cat x (resolvedColumn v)) a b ↔ Frontier cat a b ∧ a ≠ x := by
  rw [frontier_setColumn hlen hx]
  split
  · rename_i h
    simp [h, resolvedColumn]
  · rename_i h
    simp [h]

/-- Once the cells of a column left the rankings, resolving it leaves the rankings of the columns that remain. -/
theorem resolveCell_ranks {x : Nat} {v : Int} {s u : State} (h : resolveCell x v s = .ok u) (h0 : 0 ≤ v) (hs : Shape s)
    (hranks : RanksCells s.cer.rank (fun a b => Frontier s.cat a b ∧ a ≠ x))
    (htwo : ∀ z, z ≠ x → Unresolved s.cat z → 2 ≤ unknownCount (columnAt s.cat z)) :
    RanksCells u.cer.rank (Frontier u.cat) ∧ TwoUnknown u.cat ∧ unresolvedCount u.cat + 1 = unresolvedCount s.cat
      ∧ remainingElims u.cat = remainingElims s.cat - (unknownCount (columnAt s.cat x) - 1) := by
  obtain ⟨-, hx, hrsv, hcat, hcer⟩ := resolveCell_ok h h0 hs
  have hlen := hs.cat.1
  rw [hcat, hcer]
  refine ⟨hranks.congr fun a b => (frontier_resolved hlen hx v a b).symm, fun z hz => ?_, counts_resolved hx hrsv v⟩
  rw [unresolved_setColumn hlen hx] at hz
  rw [columnAt_setColumn hx]
  split at hz
  · cases hz
  · rename_i hne
    rw [if_neg hne]
    exact htwo z hne hz

/-! Hit and Absorb. -/

/-- The frontier of a column that has two UNKNOWN cells is a cell and its other one. -/
theorem frontier_column {cat : Catalogue} {x : Nat} {y : Int} (hf : Frontier cat x y) (htwo : TwoUnknown cat)
    (hok : CatOk cat) (b : Int) :
    otherFrontier (columnAt cat x) y ≠ y ∧ (Frontier cat x b ↔ b = y ∨ b = otherFrontier (columnAt cat x) y) := by
  obtain ⟨hu, hy⟩ := hf
  have hcount := htwo x hu
  rw [unknownCount_of_ok (columnAt_ok hok (lt_length_of_unresolved hu.2))] at hcount
  have hfr : Frontier cat x b ↔ b = (columnAt cat x).lo + 1 ∨ b = (columnAt cat x).hi - 1 :=
    ⟨And.right, fun h => ⟨hu, h⟩⟩
  rw [hfr]
  unfold otherFrontier
  split <;> omega

/-- A cell of the frontier is not negative. -/
theorem Frontier.nonneg {cat : Catalogue} {x : Nat} {y : Int} (hf : Frontier cat x y) (hok : CatOk cat) : 0 ≤ y := by
  obtain ⟨hu, hy⟩ := hf
  obtain ⟨h1, h2, -, -⟩ := columnAt_ok hok (lt_length_of_unresolved hu.2)
  omega

/-- An error in Hit leaves sound structures. -/
theorem hitCell_error {x : Nat} {y : Int} {s u : State} {e : Err} (h : hitCell x y s = .error (e, u)) (h0 : 0 ≤ y)
    (hs : Sound s) : Sound u := by
  unfold hitCell at h
  dsimp only at h
  split at h
  · rename_i err hr
    cases h
    refine resolveCell_error hr h0 ?_
    split
    · exact hs
    · exact ⟨hs.cat, hs.spline, hs.form, rankRemove_sorted _ _ _ hs.rank⟩
  · cases h

/-- Hit: the column leaves the rankings, resolved, and the hits count it. -/
theorem hitCell_ok {p : Option Nat} {e : RankEntry} {s u : State} (h : hitCell e.x e.y s = .ok u)
    (hs : PoppedInv p e s) :
    Shape u ∧ RanksCells u.cer.rank (Frontier u.cat) ∧ TwoUnknown u.cat ∧ ColumnsOk u.cat u.cer
      ∧ u.cer = { s.cer with rank := u.cer.rank, plain := u.cer.plain, hits := s.cer.hits + 1 } := by
  obtain ⟨⟨hshape, -, ⟨hcount, hbound⟩, -⟩, hf, hranks, htwo⟩ := hs
  have hother := frontier_column hf htwo hshape.cat
  simp only [hitCell, if_neg (hother 0).1] at h
  generalize otherFrontier (columnAt s.cat e.x) e.y = o at h hother
  cases hr : resolveCell e.x e.y (dropCell e.x o s) with
  | error q => simp [hr] at h
  | ok t =>
    obtain rfl : { t with cer := { t.cer with hits := t.cer.hits + 1 } } = u := by simpa [hr] using h
    have hnonneg := hf.nonneg hshape.cat
    have hdrop : Shape (dropCell e.x o s) := hshape.of_same (.refl _) rfl ⟨rfl, rfl, rfl, rfl, rfl⟩
    have hleft : RanksCells (dropCell e.x o s).cer.rank (fun a b => Frontier s.cat a b ∧ a ≠ e.x) := by
      refine (hranks.remove e.x o).congr fun a b => ?_
      constructor
      · rintro ⟨⟨hab, hne⟩, hne'⟩
        refine ⟨hab, ?_⟩
        rintro rfl
        rcases (hother b).2.mp hab with hb | hb
        · exact hne ⟨rfl, hb⟩
        · exact hne' ⟨rfl, hb⟩
      · rintro ⟨hab, hne⟩
        exact ⟨⟨hab, fun hc => hne hc.1⟩, fun hc => hne hc.1⟩
    obtain ⟨ht, -, -, -, hcer⟩ := resolveCell_ok hr hnonneg hdrop
    obtain ⟨hranks', htwo', hopen, helim⟩ := resolveCell_ranks hr hnonneg hdrop hleft fun z _ => htwo z
    have h2 := htwo e.x hf.1
    rw [dropCell_cat] at hopen helim
    refine ⟨ht.of_same (.refl _) rfl ⟨rfl, rfl, rfl, rfl, rfl⟩, hranks', htwo', ⟨?_, ?_⟩, ?_⟩
    all_goals
      dsimp only
      rw [hcer]
    · simp only [dropCell_cer]
      omega
    · simp only [dropCell_cer]
      omega
    · rfl

end Sys2Proof.Machine
end

section
namespace Sys2Proof.Machine

/-! An elimination. -/

/-- What holds once a cell of column x was eliminated and counted, and the column not yet looked at again: the rankings
lack the column's cell on the side just eliminated. `c` is the column after it. -/
structure ElimInv (p : Option Nat) (x : Nat) (c : Column) (low : Bool) (s : State) : Prop where
  inRun : InRun p s
  column : columnAt s.cat x = c
  inside : x < s.cat.cols.length
  unresolved : c.rsv = false
  some : 1 ≤ unknownCount c
  ranks : RanksCells s.cer.rank (fun a b => Frontier s.cat a b ∧ ¬(a = x ∧ b = if low then c.lo + 1 else c.hi - 1)
    ∨ a = x ∧ b = if low then c.hi - 1 else c.lo + 1)
  two : ∀ z, z ≠ x → Unresolved s.cat z → 2 ≤ unknownCount (columnAt s.cat z)
  unread : s.cer.mode = .encode → p = none

/-- An UNKNOWN cell other than the one eliminated at an end of the column stays UNKNOWN. -/
theorem isUnknown_of_eliminated {c c' : Column} {y z : Int} (hz : isUnknown c z = true) (hne : z ≠ y)
    (h : y = c.lo + 1 ∧ c'.lo = y ∧ c'.hi = c.hi ∨ y ≠ c.lo + 1 ∧ y = c.hi - 1 ∧ c'.lo = c.lo ∧ c'.hi = y) :
    isUnknown c' z = true := by
  simp only [isUnknown, decide_eq_true_eq] at *
  omega

/-- An elimination that is no hit keeps the block's shape. -/
theorem Shape.countElim {s : State} {cat : Catalogue} {x : Nat} {y : Int} {crit : Bool} (hs : Shape s)
    (h : eliminate s.cat x y = .ok (cat, crit)) (hmiss : s.cer.mode = .encode → plainAt s.cer.plain x ≠ some y) :
    Shape (countElim cat s) := by
  obtain ⟨c', rfl, hx, hrsv, hrsv', hc', -, -, hside⟩ := eliminate_effect hs.cat h
  obtain ⟨hplen, hsam⟩ := (samplesOk_iff s).mp hs.samples
  exact { hs with
    cat := setColumn_ok x hs.cat hc'
    samples := by
      refine (samplesOk_iff _).mpr ⟨hplen, fun z hz => ?_⟩
      have hz' := hsam z hz
      show SampleOk s.cer.mode (columnAt (setColumn s.cat x c') z) _ _
      rw [columnAt_setColumn hx]
      split
      · subst z
        unfold SampleOk at hz' ⊢
        simp only [hrsv, hrsv', Bool.false_eq_true, if_false] at hz' ⊢
        obtain ⟨hbone, hdec, henc⟩ := hz'
        refine ⟨hbone, hdec, fun hm => ?_⟩
        obtain ⟨w, hw, hun⟩ := henc hm
        exact ⟨w, hw, isUnknown_of_eliminated hun (fun hwy => hmiss hm (hw.trans (congrArg _ hwy))) hside⟩
      · exact hz' }

/-- One more elimination is counted, and one fewer is possible. -/
theorem ColumnsOk.countElim {s : State} {x : Nat} {c' : Column} (h : ColumnsOk s.cat s.cer)
    (hx : x < s.cat.cols.length) (hr : (columnAt s.cat x).rsv = false) (hr' : c'.rsv = false)
    (hcount : unknownCount c' = unknownCount (columnAt s.cat x) - 1) :
    ColumnsOk (countElim (setColumn s.cat x c') s).cat (countElim (setColumn s.cat x c') s).cer := by
  obtain ⟨hc, hb⟩ := h
  have hopen := unresolvedCount_setColumn hx c'
  have helim := remainingElims_setColumn hx c'
  simp only [openCount, elimCount, hr, hr', Bool.false_eq_true, if_false] at hopen helim
  constructor
  · simp only [countElim_cat, countElim_cer]
    omega
  · simp only [countElim_cat, countElim_cer]
    push_cast
    omega

/-- The elimination of the popped cell, when it is no hit. -/
theorem PoppedInv.eliminate {p : Option Nat} {e : RankEntry} {s : State} {cat : Catalogue} {crit : Bool}
    (h : PoppedInv p e s) (hun : s.cer.mode = .encode → p = none) (hel : eliminate s.cat e.x e.y = .ok (cat, crit))
    (hmiss : s.cer.mode = .encode → plainAt s.cer.plain e.x ≠ some e.y) :
    ∃ c, ElimInv p e.x c (e.y == (columnAt s.cat e.x).lo + 1) (countElim cat s) ∧ crit = (unknownCount c == 1) := by
  obtain ⟨⟨hshape, ⟨hlen, hsum⟩, hcols, hhits⟩, hf, hranks, htwo⟩ := h
  have hshape' := hshape.countElim hel hmiss
  obtain ⟨c', rfl, hx, hrsv, hrsv', hc', hcrit, hcount, hside⟩ := eliminate_effect hshape.cat hel
  have hclen := hshape.cat.1
  have h2 := htwo e.x hf.1
  have hcol := unknownCount_of_ok hc'
  have hcol0 := unknownCount_of_ok (columnAt_ok hshape.cat hx)
  refine ⟨c', ?_, hcrit⟩
  exact {
    inRun := ⟨hshape', ⟨hlen, by simp only [countElim_cer]; omega⟩, hcols.countElim hx hrsv hrsv' hcount, hhits⟩
    column := by simp [columnAt_setColumn hx]
    inside := by simpa [setColumn] using hx
    unresolved := hrsv'
    some := by omega
    ranks := by
      refine hranks.congr fun a b => ?_
      simp only [countElim_cat, frontier_setColumn hclen hx]
      by_cases ha : a = e.x
      · subst ha
        have hfr : Frontier s.cat e.x b ↔ b = (columnAt s.cat e.x).lo + 1 ∨ b = (columnAt s.cat e.x).hi - 1 :=
          ⟨And.right, fun h => ⟨hf.1, h⟩⟩
        simp only [hfr, hrsv', true_and, if_true]
        obtain ⟨hy, hlo, hhi⟩ | ⟨hy, hy', hlo, hhi⟩ := hside
        · simp only [hy, beq_self_eq_true, if_true]
          omega
        · simp only [beq_eq_false_iff_ne.mpr hy, Bool.false_eq_true, if_false]
          omega
      · simp [ha]
    two := fun z hz hu => by
      simp only [countElim_cat] at hu ⊢
      rw [unresolved_setColumn hclen hx, if_neg hz] at hu
      rw [columnAt_setColumn hx, if_neg hz]
      exact htwo z hu
    unread := hun }

/-! After an elimination. -/

theorem ElimInv.sound {p : Option Nat} {x : Nat} {c : Column} {low : Bool} {s : State} (h : ElimInv p x c low s) :
    Sound s := h.inRun.shape.sound h.ranks.sorted

/-- The replacement cell of a column that still has two UNKNOWN cells enters the rankings. -/
theorem ElimInv.pushFrontier {p : Option Nat} {x : Nat} {c : Column} {low : Bool} {s : State}
    (h : ElimInv p x c low s) (h2 : 2 ≤ unknownCount c) :
    LoopInv p (pushFrontier s x (if low then (columnAt s.cat x).lo + 1 else (columnAt s.cat x).hi - 1)) := by
  obtain ⟨⟨hshape, hpress, hcols, hhits⟩, hcol, hx, hrsv, -, hranks, htwo, hun⟩ := h
  have hlen := hshape.cat.1
  have hu : Unresolved s.cat x := ⟨hlen ▸ hx, hcol ▸ hrsv⟩
  have hcount := unknownCount_of_ok (columnAt_ok hshape.cat hx)
  rw [hcol] at hcount
  rw [hcol]
  exact {
    inRun := ⟨hshape.of_same (predict_sameBones _ _) rfl ⟨rfl, rfl, rfl, rfl, rfl⟩, ⟨hpress.length, hpress.sum⟩,
      ⟨hcols.count, hcols.bound⟩, hhits⟩
    ranks := by
      refine (hranks.insert ⟨_, x, if low then c.lo + 1 else c.hi - 1⟩ ?_).congr fun a b => ?_
      · cases low <;> simp <;> omega
      · have hfr : ∀ b, Frontier s.cat x b ↔ b = c.lo + 1 ∨ b = c.hi - 1 := fun b =>
          ⟨fun h => hcol ▸ h.2, fun h => ⟨hu, hcol.symm ▸ h⟩⟩
        by_cases ha : a = x
        · subst ha
          rw [pushFrontier_cat, hfr]
          cases low <;> simp <;> omega
        · simp [ha]
    two := fun z hz => by
      by_cases hzx : z = x
      · subst hzx
        simpa [hcol] using h2
      · exact htwo z hzx hz
    unread := hun }

/-- An error in Absorb leaves sound structures. -/
theorem absorbColumn_error {x : Nat} {s u : State} {e : Err} (h : absorbColumn x s = .error (e, u))
    (hx : x < s.cat.cols.length) (hs : Sound s) : Sound u := by
  unfold absorbColumn at h
  dsimp only at h
  split at h
  · rename_i err hr
    cases h
    obtain ⟨h1, -, -, -⟩ := columnAt_ok hs.cat hx
    exact resolveCell_error hr (by omega) ⟨hs.cat, hs.spline, hs.form, rankRemove_sorted _ _ _ hs.rank⟩
  · cases h

/-- Absorb: the column with one UNKNOWN cell left leaves the rankings, resolved to it. -/
theorem ElimInv.absorb {p : Option Nat} {x : Nat} {c : Column} {low : Bool} {s u : State} (h : ElimInv p x c low s)
    (h1 : unknownCount c = 1) (ha : absorbColumn x s = .ok u) : LoopInv p u := by
  obtain ⟨⟨hshape, hpress, ⟨hcount, hbound⟩, hhits⟩, hcol, hx, hrsv, -, hranks, htwo, hun⟩ := h
  have hok := columnAt_ok hshape.cat hx
  have hone := unknownCount_of_ok hok
  obtain ⟨hlo, -, -, -⟩ := hok
  rw [hcol] at hone hlo
  simp only [absorbColumn, hcol] at ha
  cases hr : resolveCell x (c.lo + 1) (dropCell x (c.lo + 1) s) with
  | error q => simp [hr] at ha
  | ok t =>
    obtain rfl : { t with cer := { t.cer with absorbs := t.cer.absorbs + 1 } } = u := by simpa [hr] using ha
    have hdrop : Shape (dropCell x (c.lo + 1) s) := hshape.of_same (.refl _) rfl ⟨rfl, rfl, rfl, rfl, rfl⟩
    have hleft : RanksCells (dropCell x (c.lo + 1) s).cer.rank (fun a b => Frontier s.cat a b ∧ a ≠ x) := by
      refine (hranks.remove x (c.lo + 1)).congr fun a b => ?_
      by_cases hax : a = x
      · subst hax
        have hfr : Frontier s.cat a b ↔ b = c.lo + 1 ∨ b = c.hi - 1 :=
          ⟨fun h => hcol ▸ h.2, fun h => ⟨⟨hshape.cat.1 ▸ hx, hcol ▸ hrsv⟩, hcol.symm ▸ h⟩⟩
        rw [hfr]
        cases low <;> simp <;> omega
      · simp [hax]
    obtain ⟨ht, -, -, -, hcer⟩ := resolveCell_ok hr (by omega) hdrop
    obtain ⟨hranks', htwo', hopen, helim⟩ := resolveCell_ranks hr (by omega) hdrop hleft htwo
    rw [dropCell_cat] at hopen helim
    rw [hcol] at helim
    refine ⟨⟨ht.of_same (.refl _) rfl ⟨rfl, rfl, rfl, rfl, rfl⟩, ?_, ?_, ?_⟩, hranks', htwo', ?_⟩
    all_goals
      dsimp only
      rw [hcer]
    · exact ⟨hpress.length, hpress.sum⟩
    · simp only [dropCell_cer]
      exact ⟨by dsimp only; omega, by dsimp only; omega⟩
    · exact hhits
    · exact hun

/-- After an elimination the loop goes on with its invariant. -/
theorem ElimInv.afterElim {p : Option Nat} {x : Nat} {c : Column} {crit low : Bool} {s u : State}
    (h : ElimInv p x c low s) (hcrit : crit = (unknownCount c == 1)) (ha : afterElim crit low x s = .ok u) :
    LoopInv p u := by
  cases crit with
  | true => exact h.absorb (by simpa using hcrit.symm) ha
  | false =>
    cases ha
    have hne : unknownCount c ≠ 1 := by simpa using hcrit.symm
    have hsome := h.some
    exact h.pushFrontier (by omega)

theorem ElimInv.afterElim_error {p : Option Nat} {x : Nat} {c : Column} {crit low : Bool} {s u : State} {e : Err}
    (h : ElimInv p x c low s) (ha : Machine.afterElim crit low x s = .error (e, u)) : Sound u := by
  cases crit with
  | true => exact absorbColumn_error ha h.inside h.sound
  | false => cases ha

end Sys2Proof.Machine
end

section
namespace Sys2Proof.Machine

/-! The loop of a run. -/

/-- Everything one round of the loop of a run can do (45_cer.md R285): end at empty rankings, fail to read a press value,
hit, refuse the elimination, exceed the bound, fail after the elimination, or go on. -/
inductive LoopStep (left : Nat) (p : Option Nat) (s : State) : RunEnd → Prop where
  | final : s.cer.rank = [] → LoopStep left p s (finalRun p s)
  | unread {e : RankEntry} {rest : List RankEntry} (err : Err) : s.cer.rank = e :: rest →
      LoopStep left p s (.raised err (popped rest s))
  | hit {e : RankEntry} {rest : List RankEntry} {q : Option Nat} {t : State} : s.cer.rank = e :: rest →
      decideHit p e (popped rest s) = .ok (true, q, t) → LoopStep left p s (hitRun e t)
  | refused {e : RankEntry} {rest : List RankEntry} {q : Option Nat} {t : State} (err : Err) : s.cer.rank = e :: rest →
      decideHit p e (popped rest s) = .ok (false, q, t) → LoopStep left p s (.raised err t)
  | exceeded {e : RankEntry} {rest : List RankEntry} {q : Option Nat} {t : State} {cat : Catalogue} {crit : Bool}
      (err : Err) : s.cer.rank = e :: rest → decideHit p e (popped rest s) = .ok (false, q, t) →
      eliminate t.cat e.x e.y = .ok (cat, crit) → LoopStep left p s (.raised err (countElim cat t))
  | failed {e : RankEntry} {rest : List RankEntry} {q : Option Nat} {t u : State} {cat : Catalogue} {crit : Bool}
      {err : Err} : s.cer.rank = e :: rest → decideHit p e (popped rest s) = .ok (false, q, t) →
      eliminate t.cat e.x e.y = .ok (cat, crit) →
      afterElim crit (e.y == (columnAt t.cat e.x).lo + 1) e.x (countElim cat t) = .error (err, u) →
      LoopStep left p s (.raised err u)
  | again {e : RankEntry} {rest : List RankEntry} {q : Option Nat} {t u : State} {cat : Catalogue} {crit : Bool}
      {left' : Nat} : left = left' + 1 → s.cer.rank = e :: rest →
      decideHit p e (popped rest s) = .ok (false, q, t) → eliminate t.cat e.x e.y = .ok (cat, crit) →
      afterElim crit (e.y == (columnAt t.cat e.x).lo + 1) e.x (countElim cat t) = .ok u →
      LoopStep left p s (runLoop left' q u)

theorem runLoop_step (left : Nat) (p : Option Nat) (s : State) : LoopStep left p s (runLoop left p s) := by
  unfold runLoop
  split
  · exact .final ‹_›
  · rename_i e rest hr
    split
    · exact .unread _ hr
    · exact .hit hr ‹_›
    · rename_i q t hd
      split
      · exact .refused _ hr hd
      · rename_i cat crit hel
        cases left with
        | zero => exact .exceeded _ hr hd hel
        | succ left =>
          dsimp only
          split
          · exact .failed hr hd hel ‹_›
          · exact .again rfl hr hd hel ‹_›

/-! How a run may end. -/

/-- The state a run ends in. -/
def RunEnd.state : RunEnd → State
  | .done t _ => t
  | .raised _ t => t

/-- A run that raises leaves sound structures; one that returns leaves the block's invariant, ACTIVE unless it was the
final run. -/
def RunEnd.Ok : RunEnd → Prop
  | .done t final => BlockInv t ∧ (final = false → t.cer.phase = .active)
  | .raised _ t => Sound t

/-- With every column resolved every sample is present. -/
theorem Shape.samples_present {s : State} (h : Shape s) (hres : ∀ x < s.cat.cols.length, (columnAt s.cat x).rsv = true) :
    ∀ q ∈ s.cer.plain, q ≠ none := by
  intro q hq
  obtain ⟨hlen, hsam⟩ := (samplesOk_iff s).mp h.samples
  obtain ⟨x, hx, rfl⟩ := List.getElem_of_mem hq
  have hr := hres x (by rw [h.cat.1, h.catN, ← hlen]; exact hx)
  have hs := hsam x (hlen ▸ hx)
  simp only [SampleOk, hr, if_true] at hs
  obtain ⟨-, hs⟩ := hs
  rw [plainAt, List.getD_eq_getElem?_getD, List.getElem?_eq_getElem hx, Option.getD_some] at hs
  exact hs ▸ nofun

/-- At empty rankings no column is unresolved. -/
theorem all_resolved_of_no_rank {s : State} (h : Shape s) (hr : s.cer.rank = [])
    (hranks : RanksCells s.cer.rank (Frontier s.cat)) : ∀ x < s.cat.cols.length, (columnAt s.cat x).rsv = true := by
  intro x hx
  by_contra hu
  have hf : Frontier s.cat x ((columnAt s.cat x).lo + 1) := ⟨⟨h.cat.1 ▸ hx, by simpa using hu⟩, .inl rfl⟩
  obtain ⟨e, he, -⟩ := (hranks.cells _ _).mpr hf
  simp [hr] at he

/-- The end of the last run: no column is unresolved, so the block is DONE. -/
theorem InRun.final {s : State} (h : InRun (some s.cer.s) s) (hr : s.cer.rank = [])
    (hranks : RanksCells s.cer.rank (Frontier s.cat)) :
    BlockInv (countRun { s with cer := { s.cer with phase := .done } }) := by
  obtain ⟨hshape, ⟨hlen, hsum⟩, ⟨hcount, hbound⟩, hhits⟩ := h
  have hres := all_resolved_of_no_rank hshape hr hranks
  obtain ⟨hopen, hleft⟩ := counts_of_all_resolved hres
  rw [hopen] at hcount
  rw [hleft, add_zero] at hbound
  refine (blockInv_iff _).mpr ⟨⟨hshape.cat, hshape.spline, hshape.form, hranks.sorted⟩, nofun, fun _ => ?_⟩
  refine ⟨hr, ?_, congrArg (· + 1) hhits, ?_, ?_, hbound, hshape.samples.1, hshape.samples_present hres⟩
  · simpa using hlen
  · simp at hsum ⊢
    omega
  · simpa using hcount

theorem Sound.tookPress {s : State} (h : Sound s) (v : Nat) : Sound (tookPress v s) :=
  ⟨h.cat, h.spline, h.form, h.rank⟩

theorem LoopInv.finalRun {p : Option Nat} {s : State} (h : LoopInv p s) (hr : s.cer.rank = []) :
    (finalRun p s).Ok := by
  unfold Machine.finalRun
  cases hm : s.cer.mode with
  | encode =>
    obtain rfl := h.unread hm
    obtain ⟨e, he⟩ | he := emitPress_cases s
    · simp only [he]
      exact h.sound.tookPress _
    · simp only [he]
      exact ⟨(h.inRun.tookPress s.cer.s s.bin s.sin).final hr h.ranks, nofun⟩
  | decode =>
    dsimp only
    split
    · exact h.sound
    · rename_i v t hp
      obtain ⟨hspl, hcat, hcer⟩ := pressOf_same hp
      have hrank : t.cer.rank = s.cer.rank := by rw [hcer]
      have hin := h.inRun.pressOf hp
      have hranks : RanksCells t.cer.rank (Frontier t.cat) := by rw [hrank, hcat]; exact h.ranks
      split
      · rename_i hv
        subst hv
        exact ⟨hin.final (hrank.trans hr) hranks, nofun⟩
      · exact hin.shape.sound hranks.sorted

/-- A hit's end of a run once the press value is in the press data. -/
def hitEnd (e : RankEntry) (t : State) : RunEnd :=
  match hitCell e.x e.y t with
  | .error (err, u) => .raised err u
  | .ok u => .done (countRun u) false

/-- Encode emits the count of eliminations as the press value of the hit; decode has read it. -/
theorem hitRun_cases (e : RankEntry) (s : State) :
    s.cer.mode = .encode ∧ ((∃ err, hitRun e s = .raised err (tookPress s.cer.s s))
        ∨ hitRun e s = hitEnd e (tookPress s.cer.s s))
      ∨ s.cer.mode = .decode ∧ hitRun e s = hitEnd e s := by
  unfold hitRun hitEnd
  cases hm : s.cer.mode with
  | encode =>
    obtain ⟨err, he⟩ | he := emitPress_cases s
    · exact .inl ⟨rfl, .inl ⟨err, by simp only [he]⟩⟩
    · exact .inl ⟨rfl, .inr (congrArg (fun r : Part => match r with
        | .error (err, t) => RunEnd.raised err t
        | .ok t => hitEnd e t) he)⟩
  | decode => exact .inr ⟨rfl, rfl⟩

theorem PoppedInv.hitEnd {e : RankEntry} {s : State} (h : PoppedInv (some s.cer.s) e s) : (hitEnd e s).Ok := by
  unfold Machine.hitEnd
  cases hh : hitCell e.x e.y s with
  | error q =>
    obtain ⟨err, u⟩ := q
    exact hitCell_error hh (h.frontier.nonneg h.inRun.shape.cat) h.sound
  | ok u =>
    obtain ⟨hshape, hranks, htwo, ⟨hcount, hbound⟩, hcer⟩ := hitCell_ok hh h
    obtain ⟨-, ⟨hlen, hsum⟩, -, hhits⟩ := h.inRun
    have hshape' : Shape (countRun u) := hshape.of_same (.refl _) rfl ⟨rfl, rfl, rfl, rfl, rfl⟩
    refine ⟨active_of_ended hshape' hranks htwo ?_ ?_ ⟨hcount, hbound⟩ ?_, fun _ => hshape.active⟩
    · rw [countRun_cer, hcer]
      simpa using hlen
    · rw [countRun_cer, hcer]
      simp only [Option.getD_some] at hsum ⊢
      omega
    · rw [countRun_cer, hcer]
      simpa using hhits

/-- A hit ends the run in the block's invariant, once its press value is known or emitted. -/
theorem PoppedInv.hitRun {q : Option Nat} {e : RankEntry} {s : State} (h : PoppedInv q e s)
    (hun : s.cer.mode = .encode → q = none) (hq : s.cer.mode = .decode → q = some s.cer.s) : (hitRun e s).Ok := by
  obtain ⟨hm, ⟨err, he⟩ | he⟩ | ⟨hm, he⟩ := hitRun_cases e s
  · rw [he]
    exact h.sound.tookPress _
  · obtain rfl := hun hm
    rw [he]
    exact PoppedInv.hitEnd ⟨h.inRun.tookPress s.cer.s s.bin s.sin, h.frontier, h.ranks, h.two⟩
  · obtain rfl := hq hm
    rw [he]
    exact h.hitEnd

/-! Runs. -/

/-- Every run ends in the block's invariant, or raises and leaves sound structures. -/
theorem LoopInv.runLoop {left : Nat} {p : Option Nat} {s : State} (h : LoopInv p s) : (runLoop left p s).Ok := by
  induction left using Nat.strong_induction_on generalizing p s with
  | _ left ih =>
    have hmiss {q : Option Nat} {e : RankEntry} {rest : List RankEntry} {t : State}
        (hd : decideHit p e (Machine.popped rest s) = .ok (false, q, t)) :
        t.cer.mode = .encode → plainAt t.cer.plain e.x ≠ some e.y := by
      obtain ⟨-, -, rfl, hne⟩ | ⟨hm, v, hp, -, -⟩ := decideHit_ok hd
      · simpa using fun _ => hne.symm
      · obtain ⟨-, -, hcer⟩ := pressOf_same hp
        intro hm'
        rw [hcer] at hm'
        exact absurd (hm.symm.trans hm') nofun
    have hstep := runLoop_step left p s
    generalize Machine.runLoop left p s = r at hstep ⊢
    cases hstep with
    | final hr => exact h.finalRun hr
    | unread err hr => exact (h.popped hr).sound
    | hit hr hd =>
      refine ((h.popped hr).decideHit hd).hitRun (decideHit_unread hd h.unread) fun hm => ?_
      obtain ⟨hm', -, rfl, -⟩ | ⟨-, v, -, hq, hv⟩ := decideHit_ok hd
      · exact absurd (hm'.symm.trans hm) nofun
      · rw [hq, beq_iff_eq.mp hv.symm]
    | refused err hr hd => exact ((h.popped hr).decideHit hd).sound
    | exceeded err hr hd hel =>
      obtain ⟨c, hc, -⟩ := ((h.popped hr).decideHit hd).eliminate (decideHit_unread hd h.unread) hel (hmiss hd)
      exact hc.sound
    | failed hr hd hel ha =>
      obtain ⟨c, hc, -⟩ := ((h.popped hr).decideHit hd).eliminate (decideHit_unread hd h.unread) hel (hmiss hd)
      exact hc.afterElim_error ha
    | again hleft hr hd hel ha =>
      obtain ⟨c, hc, hcrit⟩ := ((h.popped hr).decideHit hd).eliminate (decideHit_unread hd h.unread) hel (hmiss hd)
      exact ih _ (by omega) (hc.afterElim hcrit ha)

theorem run_ok {s : State} (h : BlockInv s) (ha : s.cer.phase = .active) : (run s).Ok :=
  (loopInv_of_active h ha).runLoop

/-- Repeated runs: this run ends them, or the block goes on from where it ended. -/
theorem runUntilFinal_cases (left : Nat) (s : State) :
    runUntilFinal left s = run s
      ∨ ∃ t left', left = left' + 1 ∧ run s = .done t false ∧ runUntilFinal left s = runUntilFinal left' t := by
  rw [runUntilFinal.eq_def left s]
  cases hr : run s with
  | raised e t => exact .inl rfl
  | done t final =>
    cases final with
    | true => exact .inl rfl
    | false =>
      cases left with
      | zero => exact .inl rfl
      | succ left => exact .inr ⟨t, left, rfl, rfl, rfl⟩

theorem runUntilFinal_ok {left : Nat} {s : State} (h : BlockInv s) (ha : s.cer.phase = .active) :
    (runUntilFinal left s).Ok := by
  have hrun := run_ok h ha
  induction left generalizing s with
  | zero =>
    obtain he | ⟨_, _, hleft, -⟩ := runUntilFinal_cases 0 s
    · exact he ▸ hrun
    · cases hleft
  | succ left ih =>
    obtain he | ⟨t, left', hleft, hr, he⟩ := runUntilFinal_cases (left + 1) s
    · exact he ▸ hrun
    · cases hleft
      rw [hr] at hrun
      obtain ⟨ht, hact⟩ := hrun
      exact he ▸ ih ht (hact rfl) (run_ok ht (hact rfl))

end Sys2Proof.Machine
end

section
namespace Sys2Proof.Machine

/-! The frame of a run: it changes the structures, and takes press values from SIN or BIN. -/

/-- The state a part of the run processor ends in. -/
def Part.state : Part → State
  | .ok t => t
  | .error (_, t) => t

/-- Streams shortened from the front. -/
theorem framed_shorter (s : State) {b : Bits} {q : List Int} (hb : b <:+ s.bin) (hq : q <:+ s.sin) :
    Framed s { s with bin := b, sin := q } := by
  refine ⟨rfl, fun h => ?_⟩
  obtain ⟨h1, h2, h3, h4⟩ := (streamsOk_iff s).mp h
  exact (streamsOk_iff _).mpr ⟨h1.suffix hb, h2, h3.suffix hq, h4⟩

theorem tookPress_framed (v : Nat) (s : State) : Framed s (tookPress v s) := .of_structures rfl

theorem pressOf_framed {p : Option Nat} {s t : State} {v : Nat} (h : pressOf p s = .ok (v, t)) : Framed s t := by
  obtain ⟨-, rfl⟩ | ⟨-, b, q, rfl, hb, hq⟩ := pressOf_ok h
  · exact .refl t
  · exact (framed_shorter s hb hq).trans (tookPress_framed v _)

theorem decideHit_framed {p q : Option Nat} {e : RankEntry} {s t : State} {hit : Bool}
    (h : decideHit p e s = .ok (hit, q, t)) : Framed s t := by
  obtain ⟨-, -, rfl, -⟩ | ⟨-, v, hp, -, -⟩ := decideHit_ok h
  · exact .refl t
  · exact pressOf_framed hp

theorem resolveCell_framed (x : Nat) (v : Int) (s : State) : Framed s (resolveCell x v s).state := by
  obtain ⟨e, he⟩ | ⟨spl, -, ⟨e, he⟩ | ⟨cat, -, he⟩⟩ := resolveCell_cases x v s <;> rw [he]
  · exact .refl s
  · exact .of_structures rfl
  · exact .of_structures rfl

theorem hitCell_framed (x : Nat) (y : Int) (s : State) : Framed s (hitCell x y s).state := by
  unfold hitCell
  dsimp only
  generalize ho : (if otherFrontier (columnAt s.cat x) y = y then s
    else dropCell x (otherFrontier (columnAt s.cat x) y) s) = s'
  have hs' : Framed s s' := by
    rw [← ho]
    split
    · exact .refl s
    · exact .of_structures rfl
  have hr := resolveCell_framed x y s'
  cases he : resolveCell x y s' with
  | error q => exact hs'.trans (by rwa [he] at hr)
  | ok t => exact (hs'.trans (by rwa [he] at hr : Framed s' t)).trans (.of_structures rfl)

theorem absorbColumn_framed (x : Nat) (s : State) : Framed s (absorbColumn x s).state := by
  unfold absorbColumn
  dsimp only
  generalize hv : (columnAt s.cat x).lo + 1 = v
  have hd : Framed s (dropCell x v s) := .of_structures rfl
  have hr := resolveCell_framed x v (dropCell x v s)
  cases he : resolveCell x v (dropCell x v s) with
  | error q => exact hd.trans (by rwa [he] at hr)
  | ok t => exact (hd.trans (by rwa [he] at hr : Framed _ t)).trans (.of_structures rfl)

theorem afterElim_framed (crit low : Bool) (x : Nat) (s : State) : Framed s (afterElim crit low x s).state := by
  cases crit with
  | true => exact absorbColumn_framed x s
  | false => exact .of_structures rfl

theorem finalRun_framed (p : Option Nat) (s : State) : Framed s (finalRun p s).state := by
  unfold finalRun
  cases s.cer.mode with
  | encode =>
    obtain ⟨e, he⟩ | he := emitPress_cases s <;> simp only [he]
    · exact tookPress_framed _ s
    · exact .of_structures rfl
  | decode =>
    dsimp only
    split
    · exact .refl s
    · rename_i v t hp
      split
      · exact (pressOf_framed hp).trans (.of_structures rfl)
      · exact pressOf_framed hp

theorem hitEnd_framed (e : RankEntry) (s : State) : Framed s (hitEnd e s).state := by
  unfold hitEnd
  have hr := hitCell_framed e.x e.y s
  cases he : hitCell e.x e.y s with
  | error q => exact (by rwa [he] at hr)
  | ok t => exact (by rwa [he] at hr : Framed s t).trans (.of_structures rfl)

theorem hitRun_framed (e : RankEntry) (s : State) : Framed s (hitRun e s).state := by
  obtain ⟨-, ⟨err, he⟩ | he⟩ | ⟨-, he⟩ := hitRun_cases e s <;> rw [he]
  · exact tookPress_framed _ s
  · exact (tookPress_framed _ s).trans (hitEnd_framed e _)
  · exact hitEnd_framed e s

theorem runLoop_framed (left : Nat) (p : Option Nat) (s : State) : Framed s (runLoop left p s).state := by
  induction left using Nat.strong_induction_on generalizing p s with
  | _ left ih =>
    have hpop (rest : List RankEntry) : Framed s (popped rest s) := .of_structures rfl
    have hdec {q : Option Nat} {e : RankEntry} {rest : List RankEntry} {hit : Bool} {t : State}
        (hd : decideHit p e (popped rest s) = .ok (hit, q, t)) : Framed s t := (hpop rest).trans (decideHit_framed hd)
    have helim (cat : Catalogue) (t : State) : Framed t (countElim cat t) := .of_structures rfl
    have hstep := runLoop_step left p s
    generalize runLoop left p s = r at hstep ⊢
    cases hstep with
    | final hr => exact finalRun_framed p s
    | unread err hr => exact hpop _
    | hit hr hd => exact (hdec hd).trans (hitRun_framed _ _)
    | refused err hr hd => exact hdec hd
    | exceeded err hr hd hel => exact (hdec hd).trans (helim _ _)
    | failed hr hd hel ha => exact ((hdec hd).trans (helim _ _)).trans (ha ▸ afterElim_framed _ _ _ _)
    | again hleft hr hd hel ha =>
      exact (((hdec hd).trans (helim _ _)).trans (ha ▸ afterElim_framed _ _ _ _)).trans (ih _ (by omega) _ _)

theorem run_framed (s : State) : Framed s (run s).state :=
  (Framed.of_structures rfl : Framed s { s with cer := { s.cer with s := 0 } }).trans (runLoop_framed _ _ _)

theorem runUntilFinal_framed (left : Nat) (s : State) : Framed s (runUntilFinal left s).state := by
  have hrun := run_framed s
  induction left generalizing s with
  | zero =>
    obtain he | ⟨_, _, hleft, -⟩ := runUntilFinal_cases 0 s
    · exact he ▸ hrun
    · cases hleft
  | succ left ih =>
    obtain he | ⟨t, left', hleft, hr, he⟩ := runUntilFinal_cases (left + 1) s
    · exact he ▸ hrun
    · cases hleft
      rw [hr] at hrun
      exact he ▸ hrun.trans (ih t (run_framed t))

end Sys2Proof.Machine
end

section
/-! Block initialisation: the structures of a new block satisfy the block's invariant (45_cer.md R290, R298). -/

namespace Sys2Proof.Machine

/-! The frontier cells of a catalogue. -/

theorem mem_columnFrontier {c : Column} {x x' : Nat} {y : Int} :
    (x', y) ∈ columnFrontier true true c x ↔ x' = x ∧ c.rsv = false ∧ (y = c.lo + 1 ∨ y = c.hi - 1) := by
  unfold columnFrontier
  by_cases hr : c.rsv = true
  · simp [hr]
  · by_cases hc : c.hi - 1 = c.lo + 1 <;> simp [hr, hc]
    omega

theorem columnFrontier_nodup (c : Column) (x : Nat) : (columnFrontier true true c x).Nodup := by
  unfold columnFrontier
  by_cases hr : c.rsv = true
  · simp [hr]
  · by_cases hc : c.hi - 1 = c.lo + 1 <;> simp [hr, hc]
    omega

/-- GenExtreme on both sides gives the frontier. -/
theorem mem_genExtreme {cat : Catalogue} (hlen : cat.cols.length = cat.n) (x : Nat) (y : Int) :
    (x, y) ∈ genExtreme true true cat ↔ Frontier cat x y := by
  simp only [genExtreme, List.mem_flatMap, Prod.exists, List.mem_zipIdx_iff_getElem?, mem_columnFrontier]
  constructor
  · rintro ⟨c, _, hc, rfl, hr, hy⟩
    obtain ⟨hx, rfl⟩ := List.getElem?_eq_some_iff.mp hc
    rw [← columnAt_eq_getElem hx] at hr hy
    exact ⟨⟨hlen ▸ hx, hr⟩, hy⟩
  · rintro ⟨⟨hx, hr⟩, hy⟩
    have hx' : x < cat.cols.length := hlen ▸ hx
    exact ⟨columnAt cat x, x, by rw [columnAt_eq_getElem hx', List.getElem?_eq_getElem hx'], rfl, hr, hy⟩

/-- Each cell once: a column gives its cells once, and different columns give different cells. -/
theorem genExtreme_nodup (cat : Catalogue) : (genExtreme true true cat).Nodup := by
  refine List.nodup_flatMap.mpr ⟨fun t _ => columnFrontier_nodup t.1 t.2, ?_⟩
  have hidx : (cat.cols.zipIdx.map Prod.snd).Nodup := by
    rw [List.zipIdx_map_snd]
    exact List.nodup_range'
  refine (List.pairwise_map.mp hidx).imp fun {a b} hne => ?_
  rintro ⟨x, y⟩ ha hb
  exact hne ((mem_columnFrontier.mp ha).1.symm.trans (mem_columnFrontier.mp hb).1)

/-! Pushing the first frontier. -/

/-- Pushing cells changes the rankings and the value cache only. -/
structure Pushed (s u : State) : Prop where
  framed : Framed s u
  bones : SameBones s.spl u.spl
  cat : u.cat = s.cat
  cer : u.cer = { s.cer with rank := u.cer.rank }

theorem pushCells_pushed (cells : List (Nat × Int)) (s : State) : Pushed s (pushCells cells s) := by
  induction cells generalizing s with
  | nil => exact ⟨.refl s, .refl s.spl, rfl, rfl⟩
  | cons c cells ih =>
    obtain ⟨hf, hb, hcat, hcer⟩ := ih (pushFrontier s c.1 c.2)
    exact ⟨(Framed.of_structures rfl : Framed s (pushFrontier s c.1 c.2)).trans hf,
      (predict_sameBones s.spl c.1).trans hb, hcat, hcer⟩

/-- Cells that are not ranked yet, each pushed once, are the ones that are ranked more. -/
theorem pushCells_ranks {cells : List (Nat × Int)} {s : State} {P : Nat → Int → Prop} (h : RanksCells s.cer.rank P)
    (hnodup : cells.Nodup) (hnew : ∀ c ∈ cells, ¬P c.1 c.2) :
    RanksCells (pushCells cells s).cer.rank (fun x y => P x y ∨ (x, y) ∈ cells) := by
  induction cells generalizing s P with
  | nil => exact h.congr (by simp)
  | cons c cells ih =>
    obtain ⟨hc, hnodup⟩ := List.nodup_cons.mp hnodup
    have hpush : RanksCells (pushFrontier s c.1 c.2).cer.rank (fun x y => P x y ∨ (x = c.1 ∧ y = c.2)) :=
      h.insert ⟨_, c.1, c.2⟩ (hnew c (by simp))
    refine (ih hpush hnodup fun d hd => ?_).congr fun x y => ?_
    · rintro (hP | ⟨h1, h2⟩)
      · exact hnew d (by simp [hd]) hP
      · exact hc (Prod.ext h1 h2 ▸ hd)
    · rw [List.mem_cons, Prod.ext_iff, or_assoc]

/-! The structures of a new block. -/

theorem columnAt_blockCatalogue {n v : Nat} (hn : 2 ≤ n) (v0 v1 : Int) {x : Nat} (hx : x < n) :
    columnAt (blockCatalogue n v v0 v1) x
      = if x = n - 1 then resolvedColumn v1 else if x = 0 then resolvedColumn v0 else freshColumn v := by
  have hfresh : columnAt (freshCatalogue n v) x = freshColumn v := by
    simp [columnAt, freshCatalogue, List.getD_eq_getElem?_getD, hx]
  rw [blockCatalogue, columnAt_setColumn (by simp [setColumn, freshCatalogue]; omega),
    columnAt_setColumn (by simp [freshCatalogue]; omega), hfresh]

theorem blockCatalogue_ok {n v : Nat} {v0 v1 : Int} (hg : GeometryOk n v) (h0 : 0 ≤ v0 ∧ v0 < v)
    (h1 : 0 ≤ v1 ∧ v1 < v) : CatOk (blockCatalogue n v v0 v1) :=
  setColumn_ok _ (setColumn_ok _ (freshCatalogue_ok hg) (resolvedColumn_ok h0.1 h0.2)) (resolvedColumn_ok h1.1 h1.2)

/-- The counts of a new block: every column but the two endpoint columns is unresolved, with all V cells UNKNOWN. -/
theorem blockCatalogue_counts {n v : Nat} (hn : 2 ≤ n) (v0 v1 : Int) :
    unresolvedCount (blockCatalogue n v v0 v1) + 2 = n
      ∧ remainingElims (blockCatalogue n v v0 v1) = ((n : Int) - 2) * ((v : Int) - 1) := by
  have hcount : unknownCount (freshColumn v) = v := by simp [unknownCount, freshColumn]
  have hfresh : ∀ x < n, columnAt (freshCatalogue n v) x = freshColumn v := fun x hx => by
    simp [columnAt, freshCatalogue, List.getD_eq_getElem?_getD, hx]
  have hopen : (unresolvedCount (freshCatalogue n v) : Int) = n := by
    rw [unresolvedCount_eq_sum]
    simp [freshCatalogue, openCount, freshColumn]
  have helim : remainingElims (freshCatalogue n v) = (n : Int) * ((v : Int) - 1) := by
    rw [remainingElims_eq_sum]
    simp [freshCatalogue, elimCount, hcount, show (freshColumn v).rsv = false from rfl]
  have hx0 : 0 < (freshCatalogue n v).cols.length := by simp [freshCatalogue]; omega
  have hx1 : n - 1 < (setColumn (freshCatalogue n v) 0 (resolvedColumn v0)).cols.length := by
    simp [setColumn, freshCatalogue]; omega
  have hcol1 : columnAt (setColumn (freshCatalogue n v) 0 (resolvedColumn v0)) (n - 1) = freshColumn v := by
    rw [columnAt_setColumn hx0, if_neg (by omega), hfresh _ (by omega)]
  obtain ⟨ho0, he0⟩ := counts_resolved hx0 (by rw [hfresh 0 (by omega)]; rfl) v0
  obtain ⟨ho1, he1⟩ := counts_resolved hx1 (by rw [hcol1]; rfl) v1
  rw [hfresh 0 (by omega), hcount] at he0
  rw [hcol1, hcount] at he1
  refine ⟨by unfold blockCatalogue; omega, ?_⟩
  unfold blockCatalogue
  rw [he1, he0, helim]
  ring

/-- The samples a new block starts with: both endpoints, and every other one given in encode and null in decode. -/
structure StartPlain (mode : Mode) (n v : Nat) (v0 v1 : Int) (plain : List (Option Int)) : Prop where
  length : plain.length = n
  first : plainAt plain 0 = some v0
  last : plainAt plain (n - 1) = some v1
  decode : mode = .decode → ∀ x < n, x ≠ 0 → x ≠ n - 1 → plainAt plain x = none
  encode : mode = .encode → ∀ x < n, ∃ y, plainAt plain x = some y ∧ 0 ≤ y ∧ y < v

/-- A new block before any cell is ranked (45_cer.md R290). -/
def newBlock (mode : Mode) (psrc : PressSrc) (n v : Nat) (cfg : Word) (plain : List (Option Int)) (v0 v1 : Int)
    (s : State) : State :=
  { s with
    spl := freshSpline n v cfg s.cfgCache v0 v1
    cat := blockCatalogue n v v0 v1
    cer := blockCer mode psrc n v cfg plain s }

theorem blockInit_eq (mode : Mode) (psrc : PressSrc) (n v : Nat) (cfg : Word) (plain : List (Option Int)) (v0 v1 : Int)
    (s : State) : blockInit mode psrc n v cfg plain v0 v1 s
      = pushCells (genExtreme true true (newBlock mode psrc n v cfg plain v0 v1 s).cat)
          (newBlock mode psrc n v cfg plain v0 v1 s) := rfl

theorem newBlock_shape {mode : Mode} {psrc : PressSrc} {n v : Nat} {cfg : Word} {plain : List (Option Int)} {v0 v1 : Int}
    {s : State} (hg : GeometryOk n v) (hm : MethodOk cfg) (h0 : 0 ≤ v0 ∧ v0 < v) (h1 : 0 ≤ v1 ∧ v1 < v)
    (hp : StartPlain mode n v v0 v1 plain) : Shape (newBlock mode psrc n v cfg plain v0 v1 s) where
  cat := blockCatalogue_ok hg h0 h1
  spline := freshSpline_ok s.cfgCache hg hm h0 h1
  form := freshSpline_form n v cfg s.cfgCache v0 v1
  active := rfl
  splValid := rfl
  catValid := rfl
  splN := rfl
  catN := rfl
  splV := rfl
  catV := rfl
  samples := by
    refine (samplesOk_iff _).mpr ⟨hp.length, fun x hx => ?_⟩
    have hx : x < n := hx
    have hbones : boneAt (freshSpline n v cfg s.cfgCache v0 v1).bones x
        = if x = n - 1 then some v1 else if x = 0 then some v0 else none := boneAt_endpoints hg.1 v0 v1 x
    show SampleOk mode (columnAt (blockCatalogue n v v0 v1) x) (boneAt (freshSpline n v cfg s.cfgCache v0 v1).bones x)
      (plainAt plain x)
    rw [hbones, columnAt_blockCatalogue hg.1 v0 v1 hx]
    by_cases hlast : x = n - 1
    · simp [SampleOk, hlast, resolvedColumn, hp.last]
    · by_cases hfirst : x = 0
      · subst hfirst
        simp [SampleOk, hlast, resolvedColumn, hp.first]
      · simp only [hlast, hfirst, if_false, SampleOk, freshColumn, Bool.false_eq_true, true_and]
        refine ⟨fun hd => hp.decode hd x hx hfirst hlast, fun he => ?_⟩
        obtain ⟨y, hy, hy0, hyv⟩ := hp.encode he x hx
        exact ⟨y, hy, by simp only [isUnknown, decide_eq_true_eq]; omega⟩

theorem blockCatalogue_two {n v : Nat} (hg : GeometryOk n v) (v0 v1 : Int) : TwoUnknown (blockCatalogue n v v0 v1) := by
  intro x hx
  obtain ⟨hxn, hr⟩ := hx
  obtain ⟨hn, -, hv, -⟩ := hg
  have hxn : x < n := hxn
  rw [columnAt_blockCatalogue hn v0 v1 hxn] at hr ⊢
  split at hr
  · cases hr
  · split at hr
    · cases hr
    · simp_all [freshColumn, unknownCount]

/-- What the start of a block leaves: an ACTIVE block that satisfies the invariant. -/
structure Begun (s t : State) : Prop where
  framed : Framed s t
  inv : BlockInv t
  active : t.cer.phase = .active

theorem blockInit_begun {mode : Mode} {psrc : PressSrc} {n v : Nat} {cfg : Word} {plain : List (Option Int)}
    {v0 v1 : Int} {s : State} (hg : GeometryOk n v) (hm : MethodOk cfg) (h0 : 0 ≤ v0 ∧ v0 < v) (h1 : 0 ≤ v1 ∧ v1 < v)
    (hp : StartPlain mode n v v0 v1 plain) : Begun s (blockInit mode psrc n v cfg plain v0 v1 s) := by
  have hshape : Shape (newBlock mode psrc n v cfg plain v0 v1 s) := newBlock_shape hg hm h0 h1 hp
  have hframed : Framed s (newBlock mode psrc n v cfg plain v0 v1 s) := .of_structures rfl
  have hnone : RanksCells (newBlock mode psrc n v cfg plain v0 v1 s).cer.rank (fun _ _ => False) := ranksCells_nil
  obtain ⟨hopen, helim⟩ := blockCatalogue_counts (v := v) hg.1 v0 v1
  have htwo := blockCatalogue_two hg v0 v1
  have hcols : ColumnsOk (newBlock mode psrc n v cfg plain v0 v1 s).cat
      (newBlock mode psrc n v cfg plain v0 v1 s).cer :=
    ⟨by simp [newBlock, blockCer, hopen], by simp [newBlock, blockCer, helim]⟩
  rw [blockInit_eq]
  generalize ht : newBlock mode psrc n v cfg plain v0 v1 s = t at hshape hframed hnone hcols ⊢
  have hcat0 : t.cat = blockCatalogue n v v0 v1 := ht ▸ rfl
  have hzero : t.cer.press = [] ∧ t.cer.runIndex = 0 ∧ t.cer.elims = 0 ∧ t.cer.hits = 0 := ht ▸ ⟨rfl, rfl, rfl, rfl⟩
  obtain ⟨hpress, hrun, helims, hhits⟩ := hzero
  have hranks := pushCells_ranks hnone (genExtreme_nodup t.cat) (fun _ _ => id)
  obtain ⟨hf, hb, hcat, hcer⟩ := pushCells_pushed (genExtreme true true t.cat) t
  have hshape' := hshape.of_same hb hcat (by rw [hcer]; exact ⟨rfl, rfl, rfl, rfl, rfl⟩)
  refine ⟨hframed.trans hf, active_of_ended hshape' ?_ (by rwa [hcat, hcat0]) ?_ ?_ ?_ ?_, hshape'.active⟩
  · rw [hcat]
    exact hranks.congr fun x y => by rw [false_or, mem_genExtreme hshape.cat.1]
  · rw [hcer]
    simp [hpress, hrun]
  · rw [hcer]
    simp [hpress, helims]
  · rw [hcer, hcat]
    exact ⟨hcols.count, hcols.bound⟩
  · rw [hcer]
    simp [hrun, hhits]

end Sys2Proof.Machine
end

section
/-! The commands that change a structure, and the statements about every command and every step. -/

namespace Sys2Proof.Machine

/-! What the work of any command keeps. -/

theorem blockInv_of_structures {s t : State} (hspl : t.spl = s.spl) (hcat : t.cat = s.cat) (hcer : t.cer = s.cer)
    (h : BlockInv s) : BlockInv t := by
  unfold BlockInv ActiveOk RankingsOk SamplesOk CountersOk at *
  rwa [hspl, hcat, hcer]

theorem Sound.of_structures {s t : State} (h : Sound s) (hspl : t.spl = s.spl) (hcat : t.cat = s.cat)
    (hrank : t.cer.rank = s.cer.rank) : Sound t :=
  ⟨hcat ▸ h.cat, hspl ▸ h.spline, hspl ▸ h.form, hrank ▸ h.rank⟩

theorem BlockInv.sound {s : State} (h : BlockInv s) : Sound s := ((blockInv_iff s).mp h).1

/-- Sound structures of a block that is neither ACTIVE nor DONE. -/
theorem Sound.blockInv {s : State} (h : Sound s) (ha : s.cer.phase ≠ .active) (hd : s.cer.phase ≠ .done) : BlockInv s :=
  (blockInv_iff s).mpr ⟨h, fun hp => absurd hp ha, fun hp => absurd hp hd⟩

/-- Changes of the catalogue and the Spline while no block is ACTIVE. -/
theorem BlockInv.of_not_active {s t : State} (h : BlockInv s) (ha : s.cer.phase ≠ .active) (hcer : t.cer = s.cer)
    (hcat : CatOk s.cat → CatOk t.cat) (hspl : SplineOk s.spl → SplineOk t.spl)
    (hform : CacheFormOk s.spl → CacheFormOk t.spl) : BlockInv t := by
  obtain ⟨⟨h1, h2, h3, h4⟩, -, hdone⟩ := (blockInv_iff s).mp h
  refine (blockInv_iff t).mpr ⟨⟨hcat h1, hspl h2, hform h3, hcer ▸ h4⟩, fun hp => ?_, fun hp => ?_⟩
  · exact absurd (hcer ▸ hp) ha
  · exact hcer ▸ hdone (hcer ▸ hp)

/-- Changes of the caches alone, in any phase. -/
theorem BlockInv.of_sameBones {s t : State} (h : BlockInv s) (hspl : SameBones s.spl t.spl) (hcat : t.cat = s.cat)
    (hcer : t.cer = s.cer) : BlockInv t := by
  obtain ⟨⟨h1, h2, h3, h4⟩, hact, hdone⟩ := (blockInv_iff s).mp h
  obtain ⟨hval, hn, hv, hbones⟩ := hspl.fields
  refine (blockInv_iff t).mpr ⟨⟨hcat ▸ h1, hspl.sound h2, hspl.form h3, hcer ▸ h4⟩, fun hp => ?_, fun hp => ?_⟩
  · have ha := hact (hcer ▸ hp)
    unfold ActiveOk RankingsOk SamplesOk CountersOk at *
    rwa [hcat, hcer, hval, hn, hv, hbones]
  · exact hcer ▸ hdone (hcer ▸ hp)

/-- What the work of every command but CTL.SRESET keeps: the frame, the streams' bounds, and the block's invariant. -/
structure Worked (s u : State) : Prop where
  framed : Framed s u
  inv : BlockInv s → BlockInv u

theorem Worked.refl (s : State) : Worked s s := ⟨.refl s, id⟩

theorem StreamWork.worked {s u : State} (h : StreamWork s u) : Worked s u := by
  obtain ⟨hspl, hcat, hcer⟩ := h.structures
  exact ⟨h.framed, blockInv_of_structures hspl hcat hcer⟩

/-! Catalogue commands. -/

/-- What a mutating catalogue command may change: the catalogue and RES0, and only while no block is ACTIVE. -/
structure CatWork (s u : State) : Prop where
  frame : { s with cat := u.cat, res0 := u.res0 } = u
  ok : CatOk s.cat → CatOk u.cat
  idle : u = s ∨ s.cer.phase ≠ .active

theorem CatWork.refl (s : State) : CatWork s s := ⟨rfl, id, .inl rfl⟩

theorem CatWork.kept {s u : State} (h : CatWork s u) : u.spl = s.spl ∧ u.cer = s.cer := by
  rw [← h.frame]
  exact ⟨rfl, rfl⟩

theorem CatWork.worked {s u : State} (h : CatWork s u) : Worked s u := by
  obtain ⟨hspl, hcer⟩ := h.kept
  refine ⟨.of_structures (by rw [← h.frame]), fun hinv => ?_⟩
  rcases h.idle with rfl | hidle
  · exact hinv
  · exact hinv.of_not_active hidle hcer h.ok (hspl ▸ id) (hspl ▸ id)

theorem requireNotActive_ok {s : State} {u : Unit} (h : requireNotActive s = .ok u) : s.cer.phase ≠ .active :=
  (require_ok _ _ _).mp h

theorem execCatInit_catWork (s : State) : EndsIn (CatWork s) (execCatInit s) := by
  refine endCommand_endsIn (.refl s) fun t h => ?_
  simp only [except_bind_ok] at h
  obtain ⟨_, ha, _, hg, h⟩ := h
  cases h
  exact ⟨rfl, fun _ => freshCatalogue_ok (requireGeometry_ok hg), .inr (requireNotActive_ok ha)⟩

theorem execCatElim_catWork (s : State) : EndsIn (CatWork s) (execCatElim s) := by
  refine endCommand_endsIn (.refl s) fun t h => ?_
  simp only [except_bind_ok, Prod.exists] at h
  obtain ⟨_, ha, _, -, cat, crit, hel, h⟩ := h
  cases h
  exact ⟨rfl, eliminate_catOk hel, .inr (requireNotActive_ok ha)⟩

theorem execCatElimcol_catWork (s : State) : EndsIn (CatWork s) (execCatElimcol s) := by
  refine endCommand_endsIn (.refl s) fun t h => ?_
  simp only [except_bind_ok] at h
  obtain ⟨_, ha, _, -, cat, hel, h⟩ := h
  cases h
  exact ⟨rfl, eliminateColumn_catOk hel, .inr (requireNotActive_ok ha)⟩

theorem catImpose_catWork {g : Column → Column} (s : State)
    (hg : ∀ {n c}, ColumnOk n c → ((g c).rsv = false → 4 < (g c).hi - (g c).lo) → ColumnOk n (g c)) :
    EndsIn (CatWork s) (endCommand s (catImpose g s)) := by
  refine endCommand_endsIn (.refl s) fun t h => ?_
  simp only [catImpose, except_bind_ok] at h
  obtain ⟨_, ha, _, -, cat, him, h⟩ := h
  cases h
  exact ⟨rfl, impose_catOk him fun c => hg, .inr (requireNotActive_ok ha)⟩

/-! Spline commands. -/

/-- What a mutating Spline command may change: the Spline, and only while no block is ACTIVE. -/
structure SplWork (s u : State) : Prop where
  frame : { s with spl := u.spl } = u
  sound : SplineOk s.spl → SplineOk u.spl
  form : CacheFormOk s.spl → CacheFormOk u.spl
  idle : u = s ∨ s.cer.phase ≠ .active

theorem SplWork.refl (s : State) : SplWork s s := ⟨rfl, id, id, .inl rfl⟩

theorem SplWork.kept {s u : State} (h : SplWork s u) : u.cat = s.cat ∧ u.cer = s.cer := by
  rw [← h.frame]
  exact ⟨rfl, rfl⟩

theorem SplWork.worked {s u : State} (h : SplWork s u) : Worked s u := by
  obtain ⟨hcat, hcer⟩ := h.kept
  refine ⟨.of_structures (by rw [← h.frame]), fun hinv => ?_⟩
  rcases h.idle with rfl | hidle
  · exact hinv
  · exact hinv.of_not_active hidle hcer (hcat ▸ id) h.sound h.form

theorem execSplInit_splWork (s : State) : EndsIn (SplWork s) (execSplInit s) := by
  refine endCommand_endsIn (.refl s) fun t h => ?_
  simp only [except_bind_ok, Prod.exists] at h
  obtain ⟨_, ha, _, hg, _, hm, _, -, v0, v1, he, h⟩ := h
  cases h
  have hgeo := requireGeometry_ok hg
  obtain ⟨h0, h1⟩ := endpointValues_ok hgeo.2.2.1 he
  exact ⟨rfl, fun _ => freshSpline_ok _ hgeo (checkMethod_ok hm) h0 h1, fun _ => freshSpline_form ..,
    .inr (requireNotActive_ok ha)⟩

theorem execSplSet_splWork (s : State) : EndsIn (SplWork s) (execSplSet s) := by
  refine endCommand_endsIn (.refl s) fun t h => ?_
  simp only [except_bind_ok] at h
  obtain ⟨_, -, _, ha, spl, hset, h⟩ := h
  cases h
  obtain ⟨hsound, hform⟩ := setBone_keeps (Int.natCast_nonneg _) hset
  exact ⟨rfl, hsound, hform, .inr (requireNotActive_ok ha)⟩

/-- What a command that predicts, and CTL.CINV, may change: the caches, SOUT and the results. -/
structure CacheWork (s u : State) : Prop where
  frame : { s with spl := u.spl, sout := u.sout, res0 := u.res0, res1 := u.res1 } = u
  bones : SameBones s.spl u.spl
  sout : SeqFit s.sout → SeqFit u.sout

theorem CacheWork.refl (s : State) : CacheWork s s := ⟨rfl, .refl _, id⟩

theorem CacheWork.kept {s u : State} (h : CacheWork s u) : u.cat = s.cat ∧ u.cer = s.cer ∧ u.spl.bones = s.spl.bones := by
  refine ⟨?_, ?_, h.bones.fields.2.2.2⟩ <;> rw [← h.frame]

theorem CacheWork.worked {s u : State} (h : CacheWork s u) : Worked s u := by
  obtain ⟨hcat, hcer, -⟩ := h.kept
  refine ⟨⟨by rw [← h.frame], fun hs => ?_⟩, fun hinv => hinv.of_sameBones h.bones hcat hcer⟩
  obtain ⟨h1, h2, h3, h4⟩ := (streamsOk_iff s).mp hs
  refine (streamsOk_iff u).mpr ⟨?_, ?_, ?_, h.sout h4⟩ <;> rw [← h.frame] <;> assumption

theorem execCtlCinv_cacheWork (s : State) : EndsIn (CacheWork s) (execCtlCinv s) :=
  .complete ⟨rfl, invalidateCaches_sameBones s.spl, id⟩

theorem execSplPred_cacheWork (s : State) : EndsIn (CacheWork s) (execSplPred s) := by
  refine endCommand_endsIn (.refl s) fun t h => ?_
  obtain ⟨-, -, h⟩ := (except_bind_ok _ _ _).mp h
  cases h
  exact ⟨rfl, predict_sameBones _ _, id⟩

theorem execCerScore_cacheWork (s : State) : EndsIn (CacheWork s) (execCerScore s) := by
  refine endCommand_endsIn (.refl s) fun t h => ?_
  simp only [except_bind_ok] at h
  obtain ⟨-, -, -, -, h⟩ := h
  cases h
  exact ⟨rfl, predict_sameBones _ _, id⟩

theorem predictPush_keeps (xs : List Nat) (spl : Spline) (q : List Int) :
    SameBones spl (predictPush xs spl q).1
      ∧ ∀ q', (predictPush xs spl q).2 = .ok q' → SeqFit q → SeqFit q' := by
  induction xs generalizing spl q with
  | nil => exact ⟨.refl spl, fun q' h => by cases h; exact id⟩
  | cons x xs ih =>
    simp only [predictPush]
    cases hp : seqPush q (predict spl x).1 with
    | error e => exact ⟨predict_sameBones spl x, nofun⟩
    | ok q₁ =>
      obtain ⟨hb, hq⟩ := ih (predict spl x).2 q₁
      exact ⟨(predict_sameBones spl x).trans hb, fun q' h hf => hq q' h (seqPush_fits hp hf)⟩

theorem execSplPredall_cacheWork (s : State) : EndsIn (CacheWork s) (execSplPredall s) := by
  have hk := predictPush_keeps (List.range s.spl.n) s.spl s.sout
  unfold execSplPredall
  split
  · exact .raise _ (.refl s)
  · split
    · rename_i spl e he
      rw [he] at hk
      exact .raise _ ⟨rfl, hk.1, id⟩
    · rename_i spl sout he
      rw [he] at hk
      exact .complete ⟨rfl, hk.1, hk.2 sout rfl⟩

/-- CER.FILL leaves a sample in every place, and the bones as they are. -/
theorem fillPlain_keeps (v x : Nat) (plain : List (Option Int)) (spl : Spline) :
    (fillPlain v x plain spl).1.length = plain.length ∧ (∀ p ∈ (fillPlain v x plain spl).1, p ≠ none)
      ∧ SameBones spl (fillPlain v x plain spl).2.1 := by
  induction plain generalizing x spl with
  | nil => exact ⟨rfl, by simp [fillPlain], .refl spl⟩
  | cons p plain ih =>
    cases p with
    | some y =>
      obtain ⟨hl, hp, hb⟩ := ih (x + 1) spl
      exact ⟨by simp [fillPlain, hl], by simpa [fillPlain] using hp, hb⟩
    | none =>
      obtain ⟨hl, hp, hb⟩ := ih (x + 1) (predict spl x).2
      exact ⟨by simp [fillPlain, hl], by simpa [fillPlain] using hp, (predict_sameBones spl x).trans hb⟩

/-- What CER.FILL may change: the caches, the samples and RES0. -/
structure FillWork (s u : State) : Prop where
  worked : Worked s u
  cat : u.cat = s.cat
  bones : u.spl.bones = s.spl.bones

theorem execCerFill_fillWork (s : State) : EndsIn (FillWork s) (execCerFill s) := by
  refine endCommand_endsIn ⟨.refl s, rfl, rfl⟩ fun t h => ?_
  simp only [except_bind_ok, require_ok] at h
  obtain ⟨-, hphase, h⟩ := h
  cases h
  obtain ⟨hlen, hsome, hb⟩ := fillPlain_keeps s.cer.v 0 s.cer.plain s.spl
  refine ⟨⟨.of_structures rfl, fun hinv => ?_⟩, rfl, hb.fields.2.2.2⟩
  obtain ⟨⟨h1, h2, h3, h4⟩, -, hdone⟩ := (blockInv_iff s).mp hinv
  refine (blockInv_iff _).mpr ⟨⟨h1, hb.sound h2, hb.form h3, h4⟩, fun hp => ?_, fun hp => ?_⟩
  · have hp : s.cer.phase = .active := hp
    rw [hp] at hphase
    simp at hphase
  · obtain ⟨d1, d2, d3, d4, d5, d6, d7, -⟩ := hdone hp
    exact ⟨d1, d2, d3, d4, d5, d6, hlen.trans d7, hsome⟩

/-! Block commands. -/

/-- An error after the start of a block, or in a run, keeps sound structures in PHASE = FAILED. -/
theorem failedBlock_worked {s t : State} (h : BlockInv s → Sound t) : Worked s (failedBlock s t) :=
  ⟨.of_structures rfl, fun hinv =>
    Sound.blockInv (s := failedBlock s t) ((h hinv).of_structures rfl rfl rfl) (by simp) (by simp)⟩

/-- A state that a run returns, with results written. -/
theorem Worked.results {s t : State} (h : Worked s t) (r0 r1 : Word) : Worked s { t with res0 := r0, res1 := r1 } :=
  ⟨h.framed.trans (.of_structures rfl), fun hinv => blockInv_of_structures rfl rfl rfl (h.inv hinv)⟩

/-- How the runs of a command end: within the frame, and well wherever the block's invariant held. -/
structure RunWork (s : State) (r : RunEnd) : Prop where
  framed : Framed s r.state
  ok : BlockInv s → r.Ok

theorem RunWork.done {s t : State} {final : Bool} (h : RunWork s (.done t final)) : Worked s t :=
  ⟨h.framed, fun hinv => (h.ok hinv).1⟩

theorem RunWork.failed {s t : State} {e : Err} (h : RunWork s (.raised e t)) : Worked s (failedBlock s t) :=
  failedBlock_worked h.ok

theorem whenActive_runWork {runs : State → RunEnd} (s : State) (hf : Framed s (runs s).state)
    (hok : BlockInv s → s.cer.phase = .active → (runs s).Ok) : RunWork s (whenActive runs s) := by
  unfold whenActive
  split
  · exact ⟨.refl s, BlockInv.sound⟩
  · rename_i u ha
    exact ⟨hf, fun hinv => hok hinv ((require_ok _ _ _).mp ha)⟩

theorem execCerRun_worked (s : State) : EndsIn (Worked s) (execCerRun s) := by
  have h : RunWork s (whenActive run s) := whenActive_runWork s (run_framed s) run_ok
  unfold execCerRun
  generalize whenActive run s = r at h
  cases r with
  | raised e t => exact .raise e h.failed
  | done t final => exact .complete (h.done.results _ _)

theorem execCerBlock_worked (s : State) : EndsIn (Worked s) (execCerBlock s) := by
  have h : RunWork s (whenActive runBlock s) := whenActive_runWork s (runUntilFinal_framed _ s) runUntilFinal_ok
  unfold execCerBlock
  generalize whenActive runBlock s = r at h
  cases r with
  | raised e t => exact .raise e h.failed
  | done t final => exact .complete (h.done.results _ _)

/-! The start of a block. -/

theorem Begun.runBlock {s t : State} (h : Begun s t) : RunWork s (runBlock t) :=
  ⟨h.framed.trans (runUntilFinal_framed _ t), fun _ => runUntilFinal_ok h.inv h.active⟩

theorem Begun.worked {s t : State} (h : Begun s t) : Worked s t := ⟨h.framed, fun _ => h.inv⟩

theorem cerCheckConfig_ok {n v : Nat} {cfg : Word} {s : State} {u : Unit} (h : cerCheckConfig n v cfg s = .ok u) :
    GeometryOk n v ∧ MethodOk cfg := by
  simp only [cerCheckConfig, except_bind_ok] at h
  obtain ⟨_, hg, _, hm, -⟩ := h
  exact ⟨requireGeometry_ok hg, checkMethod_ok hm⟩

theorem forM_ok {α : Type} {f : α → Except Err Unit} {l : List α} {u : Unit} (h : l.forM f = .ok u) :
    ∀ a ∈ l, f a = .ok () := by
  induction l with
  | nil => simp
  | cons a l ih =>
    change (f a >>= fun _ => l.forM f) = .ok u at h
    obtain ⟨_, ha, h⟩ := (except_bind_ok _ _ _).mp h
    exact List.forall_mem_cons.mpr ⟨ha, ih h⟩

theorem cerSamples_ok {n v : Nat} {s : State} {xs : List Int} (h : cerSamples n v s = .ok xs) :
    xs.length = n ∧ ∀ e ∈ xs, 0 ≤ e ∧ e < v := by
  simp only [cerSamples, except_bind_ok, require_ok] at h
  obtain ⟨_, hn, _, hall, h⟩ := h
  cases h
  exact ⟨List.length_take_of_le hn, fun e he => (require_ok _ _ _).mp (forM_ok hall e he)⟩

/-- The samples of an encode start a block. -/
theorem startPlain_encode {n v : Nat} {xs : List Int} (hn : 2 ≤ n) (hlen : xs.length = n)
    (hxs : ∀ e ∈ xs, 0 ≤ e ∧ e < v) :
    StartPlain .encode n v (xs.getD 0 0) (xs.getD (n - 1) 0) (xs.map some)
      ∧ ∀ x < n, 0 ≤ xs.getD x 0 ∧ xs.getD x 0 < v := by
  have hat : ∀ x < n, plainAt (xs.map some) x = some (xs.getD x 0) := fun x hx => by
    simp [plainAt, List.getD_eq_getElem?_getD, List.getElem?_eq_getElem (hlen ▸ hx : x < xs.length)]
  have hrange : ∀ x < n, 0 ≤ xs.getD x 0 ∧ xs.getD x 0 < v := fun x hx => by
    have hx : x < xs.length := hlen ▸ hx
    rw [List.getD_eq_getElem?_getD, List.getElem?_eq_getElem hx]
    exact hxs _ (List.getElem_mem hx)
  exact ⟨⟨by simpa using hlen, hat 0 (by omega), hat (n - 1) (by omega), nofun,
    fun _ x hx => ⟨_, hat x hx, hrange x hx⟩⟩, hrange⟩

theorem startPlain_decode {n v : Nat} (hn : 2 ≤ n) (v0 v1 : Int) :
    StartPlain .decode n v v0 v1 (decodePlain n v0 v1) := by
  have hat : ∀ x, plainAt (decodePlain n v0 v1) x = _ := boneAt_endpoints hn v0 v1
  refine ⟨by simp [decodePlain], ?_, ?_, fun _ x hx h0 h1 => ?_, nofun⟩
  · rw [hat, if_neg (by omega), if_pos rfl]
  · rw [hat, if_pos rfl]
  · rw [hat, if_neg h1, if_neg h0]

theorem startEncode_begun {psrc : PressSrc} {s t : State} (hg : GeometryOk (zext s.cfgN) (zext s.cfgV))
    (hm : MethodOk s.cfgMethod) (h : startEncode psrc s = .ok t) : Begun s t := by
  simp only [startEncode, except_bind_ok] at h
  obtain ⟨xs, hxs, h⟩ := h
  cases h
  obtain ⟨hlen, hrange⟩ := cerSamples_ok hxs
  have hn : 2 ≤ zext s.cfgN := hg.1
  obtain ⟨hplain, hends⟩ := startPlain_encode hn hlen hrange
  obtain ⟨hf, hinv, hact⟩ := blockInit_begun (psrc := psrc) (s := { s with sin := s.sin.drop (zext s.cfgN) }) hg hm
    (hends 0 (by omega)) (hends (zext s.cfgN - 1) (by omega)) hplain
  exact ⟨(framed_shorter s List.suffix_rfl (List.drop_suffix ..)).trans hf, hinv, hact⟩

theorem beginEncode_begun {psrc : PressSrc} {s t : State} (h : beginEncode psrc s = .ok t) : Begun s t := by
  simp only [beginEncode, except_bind_ok] at h
  obtain ⟨_, hc, h⟩ := h
  obtain ⟨hg, hm⟩ := cerCheckConfig_ok hc
  exact startEncode_begun hg hm h

theorem beginEncblk_begun {s t : State} {c : Codec} (h : beginEncblk s = .ok (c, t)) : Begun s t := by
  simp only [beginEncblk, except_bind_ok] at h
  obtain ⟨_, hc, c', -, t', ht, h⟩ := h
  cases h
  obtain ⟨hg, hm⟩ := cerCheckConfig_ok hc
  exact startEncode_begun hg hm ht

/-- The block of a decode with endpoints in range. -/
theorem blockInit_decode_begun {psrc : PressSrc} {n v v0 v1 : Nat} {cfg : Word} {s : State} (hg : GeometryOk n v)
    (hm : MethodOk cfg) (h0 : v0 < v) (h1 : v1 < v) :
    Begun s (blockInit .decode psrc n v cfg (decodePlain n v0 v1) v0 v1 s) :=
  blockInit_begun hg hm (by omega) (by omega) (startPlain_decode hg.1 v0 v1)

/-- The end of CER.INIT's checks of a decode: the endpoints, then the block. -/
theorem checkedDecode_begun {psrc : PressSrc} {n v v0 v1 : Nat} {cfg : Word} {e0 e1 : Err} {s t : State}
    (hg : GeometryOk n v) (hm : MethodOk cfg)
    (h : (do
      require (v0 < v) e0
      require (v1 < v) e1
      pure (blockInit .decode psrc n v cfg (decodePlain n v0 v1) v0 v1 s) : Except Err State) = .ok t) : Begun s t := by
  simp only [except_bind_ok, require_ok] at h
  obtain ⟨_, h0, _, h1, h⟩ := h
  cases h
  exact blockInit_decode_begun hg hm h0 h1

theorem beginDecode_begun {psrc : PressSrc} {s t : State} (h : beginDecode psrc s = .ok t) : Begun s t := by
  obtain ⟨_, hc, h⟩ := (except_bind_ok _ _ _).mp h
  obtain ⟨hg, hm⟩ := cerCheckConfig_ok hc
  split at h
  · obtain ⟨_, -, h⟩ := (except_bind_ok _ _ _).mp h
    exact checkedDecode_begun hg hm h
  · exact checkedDecode_begun hg hm h

theorem readGammaField_suffix {b : Bits} {r : Nat × Bits} (h : readGammaField b = .ok r) : r.2 <:+ b := by
  unfold readGammaField at h
  split at h
  · cases h
  · rename_i hd
    cases h
    exact decGamma_suffix _ _ _ hd

theorem readRawField_suffix {w : Nat} {b : Bits} {r : Nat × Bits} (h : readRawField w b = .ok r) : r.2 <:+ b := by
  unfold readRawField at h
  split at h
  · cases h
  · rename_i hd
    cases h
    exact readInto_suffix _ _ _ _ _ hd

/-- A header that is read has endpoints in its range, and the bits after it are left. -/
theorem readHeader_ok {b : Bits} {h : BlockHeader} (hr : readHeader b = .ok h) :
    h.v0 < h.v ∧ h.v1 < h.v ∧ h.rest <:+ b := by
  simp only [readHeader, except_bind_ok, require_ok, Prod.exists] at hr
  obtain ⟨n, b₁, hn, v, b₂, hv, -, -, -, -, id, b₃, hid, -, -, v0, b₄, h0, v1, b₅, h1, -, hlt0, -, hlt1, hr⟩ := hr
  cases hr
  have s₁ := readGammaField_suffix hn
  have s₂ := readGammaField_suffix hv
  have s₃ := readRawField_suffix hid
  have s₄ := readRawField_suffix h0
  have s₅ := readRawField_suffix h1
  exact ⟨hlt0, hlt1, s₅.trans (s₄.trans (s₃.trans (s₂.trans s₁)))⟩

theorem beginDecblk_begun {s t : State} (h : beginDecblk s = .ok t) : Begun s t := by
  simp only [beginDecblk, except_bind_ok] at h
  obtain ⟨hd, hr, _, hc, _, -, h⟩ := h
  cases h
  obtain ⟨hg, hm⟩ := cerCheckConfig_ok hc
  obtain ⟨h0, h1, hrest⟩ := readHeader_ok hr
  obtain ⟨hf, hinv, hact⟩ := blockInit_decode_begun (psrc := .bin) (s := { s with bin := hd.rest }) hg hm h0 h1
  exact ⟨(framed_shorter s hrest List.suffix_rfl).trans hf, hinv, hact⟩

theorem execCerInit_worked (s : State) : EndsIn (Worked s) (execCerInit s) := by
  refine endCommand_endsIn (.refl s) fun t h => ?_
  obtain ⟨-, -, h⟩ := (except_bind_ok _ _ _).mp h
  split at h
  · exact (beginDecode_begun h).worked
  · exact (beginEncode_begun h).worked

/-! Whole blocks. -/

theorem writeBlock_fits {c : Codec} {cer : Cer} {b b' : Bits} (h : writeBlock c cer b = .ok b') (hb : BitsFit b) :
    BitsFit b' := by
  simp only [writeBlock, except_bind_ok] at h
  obtain ⟨-, -, b₁, hhead, h⟩ := h
  exact foldlM_keeps (bitsWrite_fits (codeLen_eq ..)) h (bitsWrite_fits rfl hhead hb)

/-- Stream work after other work. -/
theorem Worked.stream {s t u : State} (h : Worked s t) (k : StreamWork t u) : Worked s u :=
  ⟨h.framed.trans k.framed, fun hinv => k.worked.inv (h.inv hinv)⟩

theorem execCerEncblk_worked (s : State) : EndsIn (Worked s) (execCerEncblk s) := by
  unfold execCerEncblk
  split
  · exact .raise _ (.refl s)
  · rename_i c t hb
    have h := (beginEncblk_begun hb).runBlock
    generalize runBlock t = r at h
    cases r with
    | raised e u => exact .raise e h.failed
    | done u final =>
      unfold endEncblk
      dsimp only
      split
      · exact .raise _ (failedBlock_worked fun hinv => (h.done.inv hinv).sound)
      · rename_i bout hw
        exact .complete (h.done.stream (streamWork_streams u _ _ id (writeBlock_fits hw) id id))

theorem execCerDecblk_worked (s : State) : EndsIn (Worked s) (execCerDecblk s) := by
  unfold execCerDecblk
  split
  · exact .raise _ (.refl s)
  · rename_i t hb
    have h := (beginDecblk_begun hb).runBlock
    generalize runBlock t = r at h
    cases r with
    | raised e u => exact .raise e h.failed
    | done u final =>
      unfold endDecblk
      dsimp only
      split
      · exact .raise _ (failedBlock_worked fun hinv => (h.done.inv hinv).sound)
      · rename_i sout hw
        exact .complete (h.done.stream (streamWork_streams u _ _ id id id (seqPushAll_fits hw)))

end Sys2Proof.Machine
end

section
namespace Sys2Proof.Machine

/-! Every command. -/

/-- The work of every command but CTL.SRESET keeps the frame, the streams' bounds and the block's invariant. -/
theorem exec_worked {i : Instr} (hi : i ≠ .ctlSreset) (s : State) : EndsIn (Worked s) (exec i s) := by
  cases hu : usesStructures i with
  | false => exact (exec_streamWork hu s).mono fun _ => StreamWork.worked
  | true =>
    cases i with
    | ctlSreset => exact absurd rfl hi
    | ctlCinv => exact (execCtlCinv_cacheWork s).mono fun _ => CacheWork.worked
    | catInit => exact (execCatInit_catWork s).mono fun _ => CatWork.worked
    | catElim => exact (execCatElim_catWork s).mono fun _ => CatWork.worked
    | catElimcol => exact (execCatElimcol_catWork s).mono fun _ => CatWork.worked
    | catImpmin => exact (catImpose_catWork s imposeMinColumn_ok).mono fun _ => CatWork.worked
    | catImpmax => exact (catImpose_catWork s imposeMaxColumn_ok).mono fun _ => CatWork.worked
    | splInit => exact (execSplInit_splWork s).mono fun _ => SplWork.worked
    | splSet => exact (execSplSet_splWork s).mono fun _ => SplWork.worked
    | splPred => exact (execSplPred_cacheWork s).mono fun _ => CacheWork.worked
    | splPredall => exact (execSplPredall_cacheWork s).mono fun _ => CacheWork.worked
    | cerInit => exact execCerInit_worked s
    | cerRun => exact execCerRun_worked s
    | cerBlock => exact execCerBlock_worked s
    | cerFill => exact (execCerFill_fillWork s).mono fun _ => FillWork.worked
    | cerEncblk => exact execCerEncblk_worked s
    | cerDecblk => exact execCerDecblk_worked s
    | cerScore => exact (execCerScore_cacheWork s).mono fun _ => CacheWork.worked
    | _ => cases hu

/-- CTL.SRESET ends in the reset state, with the sticky flags and the model's own fields kept. -/
theorem exec_ctlSreset (s : State) : exec .ctlSreset s = .next (complete (softReset s)) := rfl

/-- Settles O12: an end of a command keeps what the work of the command kept. -/
theorem hostRegistersKept : Obligations.HostRegistersKept := by
  intro i s t h
  by_cases hi : i = .ctlSreset
  · subst hi
    cases (exec_ctlSreset s).symm.trans h
    exact ⟨rfl, rfl, fun hne => absurd rfl hne⟩
  · obtain ⟨u, hw, ht, -⟩ := (exec_worked hi s).next h
    have hf := hw.framed.frame
    rw [ht, ← hf]
    exact ⟨rfl, rfl, fun _ => ⟨rfl, rfl, rfl, rfl, rfl, rfl, rfl, rfl, rfl, rfl, rfl, rfl⟩⟩

/-- What the structures of the work of a command are, the command's end has. -/
theorem EndsIn.structures {P : State → Prop} {o : Host.Outcome State Fault Refusal} {t : State} (h : EndsIn P o)
    (ht : o = .next t) : ∃ u, P u ∧ t.spl = u.spl ∧ t.cat = u.cat ∧ t.cer = u.cer := by
  obtain ⟨u, hu, heq, -⟩ := h.next ht
  rw [heq]
  exact ⟨u, hu, rfl, rfl, rfl⟩

/-- The commands that make or run a block, and the reset: they may change every structure. -/
def blockWriters : List Instr := [.ctlSreset, .cerInit, .cerRun, .cerBlock, .cerEncblk, .cerDecblk]

/-- The commands that change the catalogue alone. -/
def catWriters : List Instr := [.catInit, .catElim, .catElimcol, .catImpmin, .catImpmax]

/-- The commands that change the bones alone. -/
def boneWriters : List Instr := [.splInit, .splSet]

/-- Which structures a command may write, by family. -/
theorem exec_structures {i : Instr} {s t : State} (h : exec i s = .next t) :
    (t.cat = s.cat ∧ t.spl.bones = s.spl.bones ∧ t.cer = s.cer)
      ∨ (i ∈ catWriters ∧ t.spl.bones = s.spl.bones ∧ t.cer = s.cer)
      ∨ (i ∈ boneWriters ∧ t.cat = s.cat ∧ t.cer = s.cer)
      ∨ (i = .cerFill ∧ t.cat = s.cat ∧ t.spl.bones = s.spl.bones)
      ∨ i ∈ blockWriters := by
  have cat (hi : i ∈ catWriters) (he : EndsIn (CatWork s) (exec i s)) :
      i ∈ catWriters ∧ t.spl.bones = s.spl.bones ∧ t.cer = s.cer := by
    obtain ⟨u, hw, hspl, -, hcer⟩ := he.structures h
    obtain ⟨hspl', hcer'⟩ := hw.kept
    exact ⟨hi, congrArg _ (hspl.trans hspl'), hcer.trans hcer'⟩
  have bones (hi : i ∈ boneWriters) (he : EndsIn (SplWork s) (exec i s)) :
      i ∈ boneWriters ∧ t.cat = s.cat ∧ t.cer = s.cer := by
    obtain ⟨u, hw, -, hcat, hcer⟩ := he.structures h
    obtain ⟨hcat', hcer'⟩ := hw.kept
    exact ⟨hi, hcat.trans hcat', hcer.trans hcer'⟩
  have caches (he : EndsIn (CacheWork s) (exec i s)) :
      t.cat = s.cat ∧ t.spl.bones = s.spl.bones ∧ t.cer = s.cer := by
    obtain ⟨u, hw, hspl, hcat, hcer⟩ := he.structures h
    obtain ⟨hcat', hcer', hbones⟩ := hw.kept
    exact ⟨hcat.trans hcat', (congrArg _ hspl).trans hbones, hcer.trans hcer'⟩
  cases hu : usesStructures i with
  | false =>
    obtain ⟨u, hw, hspl, hcat, hcer⟩ := (exec_streamWork hu s).structures h
    obtain ⟨hspl', hcat', hcer'⟩ := hw.structures
    exact .inl ⟨hcat.trans hcat', congrArg _ (hspl.trans hspl'), hcer.trans hcer'⟩
  | true =>
    cases i with
    | catInit => exact .inr (.inl (cat (by decide) (execCatInit_catWork s)))
    | catElim => exact .inr (.inl (cat (by decide) (execCatElim_catWork s)))
    | catElimcol => exact .inr (.inl (cat (by decide) (execCatElimcol_catWork s)))
    | catImpmin => exact .inr (.inl (cat (by decide) (catImpose_catWork s imposeMinColumn_ok)))
    | catImpmax => exact .inr (.inl (cat (by decide) (catImpose_catWork s imposeMaxColumn_ok)))
    | splInit => exact .inr (.inr (.inl (bones (by decide) (execSplInit_splWork s))))
    | splSet => exact .inr (.inr (.inl (bones (by decide) (execSplSet_splWork s))))
    | ctlCinv => exact .inl (caches (execCtlCinv_cacheWork s))
    | splPred => exact .inl (caches (execSplPred_cacheWork s))
    | splPredall => exact .inl (caches (execSplPredall_cacheWork s))
    | cerScore => exact .inl (caches (execCerScore_cacheWork s))
    | cerFill =>
      obtain ⟨u, hw, hspl, hcat, -⟩ := (execCerFill_fillWork s).structures h
      exact .inr (.inr (.inr (.inl ⟨rfl, hcat.trans hw.cat, (congrArg _ hspl).trans hw.bones⟩)))
    | ctlSreset | cerInit | cerRun | cerBlock | cerEncblk | cerDecblk => exact .inr (.inr (.inr (.inr (by decide))))
    | _ => cases hu

/-- Settles O14: each family of commands writes its own structures. -/
theorem structureWriters : Obligations.StructureWriters := by
  intro i s t h
  obtain ⟨hcat, hbones, hcer⟩ | ⟨hi, hbones, hcer⟩ | ⟨hi, hcat, hcer⟩ | ⟨rfl, hcat, hbones⟩ | hi := exec_structures h
  · exact ⟨fun hne => absurd hcat hne, fun hne => absurd hbones hne, fun hne => absurd hcer hne⟩
  · refine ⟨fun _ => ?_, fun hne => absurd hbones hne, fun hne => absurd hcer hne⟩
    simp only [catWriters, List.mem_cons, List.not_mem_nil, or_false] at hi ⊢
    tauto
  · refine ⟨fun hne => absurd hcat hne, fun _ => ?_, fun hne => absurd hcer hne⟩
    simp only [boneWriters, List.mem_cons, List.not_mem_nil, or_false] at hi ⊢
    tauto
  · exact ⟨fun hne => absurd hcat hne, fun hne => absurd hbones hne, fun _ => by decide⟩
  · simp only [blockWriters, List.mem_cons, List.not_mem_nil, or_false] at hi ⊢
    tauto

/-! Every host access. -/

/-- BUSY, DONE, NOCHG and ERR of two STATUS values agree: the sticky flags may differ. -/
structure SameProgress (st st' : Status) : Prop where
  busy : st'.busy = st.busy
  done : st'.done = st.done
  nochg : st'.nochg = st.nochg
  err : st'.err = st.err

/-- What every host access but a command start and a reset keeps: SEQ and the progress bits of STATUS, and that the
reserved bits of the configuration are 0. -/
structure AccessKeeps (s t : State) : Prop where
  seq : t.seq = s.seq
  status : SameProgress s.status t.status
  reserved : ReservedZero s → ReservedZero t

theorem AccessKeeps.refl (s : State) : AccessKeeps s s := ⟨rfl, ⟨rfl, rfl, rfl, rfl⟩, id⟩

theorem AccessKeeps.statusOk {s t : State} (h : AccessKeeps s t) (hs : StatusOk s) : StatusOk t := by
  obtain ⟨hseq, ⟨hbusy, hdone, hnochg, herr⟩, -⟩ := h
  unfold StatusOk
  rwa [hseq, hbusy, hdone, hnochg, herr]

theorem hostRead_accessKeeps (off : BitVec 8) (w : Nat) (s : State) : AccessKeeps s (hostRead off w s) := by
  have same : SameProgress s.status s.status := ⟨rfl, rfl, rfl, rfl⟩
  have idle (r : Reg) : AccessKeeps s (readIdle r s) := by
    cases r with
    | boutPop =>
      simp only [readIdle, popBout]
      split
      · exact ⟨rfl, ⟨rfl, rfl, rfl, rfl⟩, id⟩
      · exact ⟨rfl, same, id⟩
    | soutPop =>
      simp only [readIdle, popSout]
      split
      · exact ⟨rfl, ⟨rfl, rfl, rfl, rfl⟩, id⟩
      · exact ⟨rfl, same, id⟩
    | _ => exact ⟨rfl, same, id⟩
  unfold hostRead
  split
  · split
    · exact ⟨rfl, same, id⟩
    · rename_i r _
      split
      · exact idle r
      · cases r <;> exact ⟨rfl, ⟨rfl, rfl, rfl, rfl⟩, id⟩
  · exact ⟨rfl, ⟨rfl, rfl, rfl, rfl⟩, id⟩

theorem and_and_mask {n : Nat} (v m : BitVec n) : v &&& m &&& m = v &&& m := by
  rw [BitVec.and_assoc, BitVec.and_self]

theorem writeIdle_accessKeeps {r : Reg} (hr : r ≠ .cmd) (v : Word) (s : State) : AccessKeeps s (writeIdle r v s) := by
  have same : SameProgress s.status s.status := ⟨rfl, rfl, rfl, rfl⟩
  cases r with
  | cmd => exact absurd rfl hr
  | cfgMethod => exact ⟨rfl, same, fun ⟨_, h2, h3, h4⟩ => ⟨and_and_mask v _, h2, h3, h4⟩⟩
  | cfgCodec => exact ⟨rfl, same, fun ⟨h1, _, h3, h4⟩ => ⟨h1, and_and_mask v _, h3, h4⟩⟩
  | cfgHaven => exact ⟨rfl, same, fun ⟨h1, h2, _, h4⟩ => ⟨h1, h2, and_and_mask v _, h4⟩⟩
  | cfgCache => exact ⟨rfl, same, fun ⟨h1, h2, h3, _⟩ => ⟨h1, h2, h3, and_and_mask v _⟩⟩
  | binPush =>
    simp only [writeIdle, pushBin]
    split <;> exact ⟨rfl, ⟨rfl, rfl, rfl, rfl⟩, id⟩
  | sinPush =>
    simp only [writeIdle, pushSin]
    split <;> exact ⟨rfl, ⟨rfl, rfl, rfl, rfl⟩, id⟩
  | _ => exact ⟨rfl, ⟨rfl, rfl, rfl, rfl⟩, id⟩

/-- A host write starts a command, or keeps what every other access keeps. -/
theorem hostWrite_cases (off : BitVec 8) (w : Nat) (v : Word) (s : State) :
    hostWrite off w v s = startCommand v s ∨ AccessKeeps s (hostWrite off w v s) := by
  unfold hostWrite
  split
  · split
    · exact .inr (.refl s)
    · rename_i r _
      split
      · by_cases hr : r = .cmd
        · exact .inl (by rw [hr]; rfl)
        · exact .inr (writeIdle_accessKeeps hr v s)
      · unfold writeBusy
        split
        · exact .inr ⟨rfl, ⟨rfl, rfl, rfl, rfl⟩, id⟩
        · rename_i ho
          exact .inr (writeIdle_accessKeeps (by rintro rfl; exact ho rfl) v s)
  · exact .inr ⟨rfl, ⟨rfl, rfl, rfl, rfl⟩, id⟩

theorem reservedZero_reset : ReservedZero State.reset := by unfold ReservedZero; decide

theorem hostAccess_registers (a : HostAccess) {s : State} (hs : StatusOk s) (hr : ReservedZero s) :
    StatusOk (hostAccess a s) ∧ ReservedZero (hostAccess a s) := by
  cases a with
  | read off w =>
    have h := hostRead_accessKeeps off w s
    exact ⟨h.statusOk hs, h.reserved hr⟩
  | write off w v =>
    rcases hostWrite_cases off w v s with h | h
    · show StatusOk (hostWrite off w v s) ∧ ReservedZero (hostWrite off w v s)
      rw [h]
      exact ⟨⟨by simp [statusStart], fun _ => ⟨rfl, rfl, rfl⟩, nofun, nofun⟩, hr⟩
    · exact ⟨h.statusOk hs, h.reserved hr⟩
  | reset => exact ⟨⟨⟨nofun, nofun⟩, nofun, nofun, nofun⟩, reservedZero_reset⟩

/-- A host access keeps the four streams within their bounds: a push is refused at capacity. -/
theorem hostAccess_streams (a : HostAccess) {s : State} (hs : StreamsOk s) : StreamsOk (hostAccess a s) := by
  have hs' := (streamsOk_iff s).mp hs
  obtain ⟨hbin, hbout, hsin, hsout⟩ := hs'
  have idleRead (r : Reg) : StreamsOk (readIdle r s) := by
    cases r with
    | boutPop =>
      simp only [readIdle, popBout]
      split
      · exact hs
      · rename_i b rest hb
        exact (streamsOk_iff _).mpr ⟨hbin, hbout.suffix (hb ▸ List.suffix_cons b rest), hsin, hsout⟩
    | soutPop =>
      simp only [readIdle, popSout]
      split
      · exact hs
      · rename_i e rest he
        exact (streamsOk_iff _).mpr ⟨hbin, hbout, hsin, hsout.suffix (he ▸ List.suffix_cons e rest)⟩
    | _ => exact hs
  have idleWrite (r : Reg) (v : Word) : StreamsOk (writeIdle r v s) := by
    cases r with
    | binPush =>
      simp only [writeIdle, pushBin]
      split
      · refine (streamsOk_iff _).mpr ⟨?_, hbout, hsin, hsout⟩
        simp only [BitsFit, List.length_append, List.length_singleton]
        omega
      · exact hs
    | sinPush =>
      simp only [writeIdle, pushSin]
      split
      · refine (streamsOk_iff _).mpr ⟨hbin, hbout, ⟨?_, fun e he => ?_⟩, hsout⟩
        · simp only [List.length_append, List.length_singleton]
          omega
        · rcases List.mem_append.mp he with he | he
          · exact hsin.2 e he
          · obtain rfl := List.mem_singleton.mp he
            exact ⟨BitVec.le_toInt v, BitVec.toInt_lt⟩
      · exact hs
    | _ => exact hs
  cases a with
  | read off w =>
    simp only [hostAccess, hostRead]
    split
    · split
      · exact hs
      · rename_i r _
        split
        · exact idleRead r
        · cases r <;> exact hs
    · exact hs
  | write off w v =>
    simp only [hostAccess, hostWrite]
    split
    · split
      · exact hs
      · rename_i r _
        split
        · exact idleWrite r v
        · unfold writeBusy
          split
          · exact hs
          · exact idleWrite r v
    · exact hs
  | reset => exact (streamsOk_iff _).mpr ⟨bitsFit_nil, bitsFit_nil, seqFit_nil, seqFit_nil⟩

/-! Every step. -/

/-- What is kept by every host access, by CTL.SRESET, by the work of every other command and by the report of an error is
kept by every step; all but the first start from the same state. -/
theorem step_keeps {P : State → Prop} {s t : State} (hs : P s) (h : step s = .next t)
    (hacc : ∀ a rest, P (hostAccess a { s with host := rest }))
    (hsreset : s.seq = .busy → P (complete (softReset s)))
    (hraise : ∀ e, s.seq = .busy → P (raiseError e s))
    (hexec : ∀ i, s.seq = .busy → i ≠ .ctlSreset → exec i s = .next t → P t) : P t := by
  obtain ⟨a, rest, -, he⟩ | ⟨-, -, he⟩ | ⟨-, hb, he⟩ := step_cases s <;> rw [he] at h
  · cases h
    exact hacc a rest
  · cases h
    exact hs
  · unfold runLatched at h
    split at h
    · rename_i i _
      by_cases hi : i = .ctlSreset
      · subst hi
        cases (exec_ctlSreset s).symm.trans h
        exact hsreset hb
      · exact hexec i hb hi h
    · cases h
      exact hraise _ hb

/-- The ends of a command leave the progress bits of STATUS consistent. -/
theorem statusOk_of_ended {st : Status} {t : State} (hseq : t.seq = .idle) (herr : st.err = none)
    (hnochg : st.nochg = false)
    (h : t.status = statusDone st ∨ t.status = statusNoChange st ∨ ∃ e : Err, t.status = statusRaise e.kind st) :
    StatusOk t := by
  unfold StatusOk
  rw [hseq]
  obtain h | h | ⟨e, h⟩ := h <;> rw [h] <;> simp [statusDone, statusNoChange, statusRaise, herr, hnochg]

/-- Settles O21: host accesses by the arms of the register window, commands by their frames. -/
theorem registerAndStreamInvariant : Obligations.RegisterAndStreamInvariant := by
  refine ⟨fun s t hs hr h => ?_, fun s t hs h => ?_⟩
  · have flags (hb : s.seq = .busy) : s.status.err = none ∧ s.status.nochg = false := by
      obtain ⟨hseq, hbusy, -, -⟩ := hs
      obtain ⟨-, hn, he⟩ := hbusy (hseq.mp hb)
      exact ⟨he, hn⟩
    refine step_keeps (P := fun t => StatusOk t ∧ ReservedZero t) ⟨hs, hr⟩ h
      (fun a rest => hostAccess_registers a hs hr) (fun hb => ⟨?_, reservedZero_reset⟩) (fun e hb => ⟨?_, hr⟩)
      (fun i hb hi he => ?_)
    · exact statusOk_of_ended (st := (softReset s).status) rfl rfl rfl (.inl rfl)
    · exact statusOk_of_ended rfl (flags hb).1 (flags hb).2 (.inr (.inr ⟨e, rfl⟩))
    · obtain ⟨u, hw, ht, hst⟩ := (exec_worked hi s).next he
      have hf := hw.framed.frame
      have hus : u.status = s.status := by rw [← hf]
      refine ⟨statusOk_of_ended (st := u.status) (by rw [ht]) (hus ▸ (flags hb).1) (hus ▸ (flags hb).2) hst, ?_⟩
      rw [ht, ← hf]
      exact hr
  · refine step_keeps (P := StreamsOk) hs h (fun a rest => hostAccess_streams a hs) (fun _ => ?_) (fun _ _ => hs)
      (fun i hb hi he => ?_)
    · exact (streamsOk_iff _).mpr ⟨bitsFit_nil, bitsFit_nil, seqFit_nil, seqFit_nil⟩
    · obtain ⟨u, hw, ht, -⟩ := (exec_worked hi s).next he
      rw [ht]
      exact hw.framed.streams hs

/-- The structures at their reset values satisfy the block's invariant. -/
theorem blockInv_of_reset {s : State} (hspl : s.spl = Spline.reset) (hcat : s.cat = Catalogue.reset)
    (hcer : s.cer = Cer.reset) : BlockInv s := by
  refine Sound.blockInv ⟨?_, ?_, ?_, ?_⟩ (by rw [hcer]; nofun) (by rw [hcer]; nofun)
  · rw [hcat]
    exact ⟨rfl, nofun, nofun⟩
  · rw [hspl]
    exact nofun
  · rw [hspl]
    exact ⟨.nil, Nat.zero_le _, fun _ => rfl⟩
  · rw [hcer]
    exact .nil

/-- Settles O22: host accesses leave the structures or reset them, and the work of every command keeps the invariant. -/
theorem blockInvariantKept : Obligations.BlockInvariantKept := by
  intro s t hs h
  refine step_keeps (P := BlockInv) hs h (fun a rest => ?_) (fun _ => blockInv_of_reset rfl rfl rfl)
    (fun e _ => blockInv_of_structures rfl rfl rfl hs) (fun i _ hi he => ?_)
  · by_cases ha : a = .reset
    · subst ha
      exact blockInv_of_reset rfl rfl rfl
    · obtain ⟨hspl, hcat, hcer, -⟩ := hostAccess_structures a { s with host := rest } ha
      exact blockInv_of_structures hspl hcat hcer hs
  · obtain ⟨u, hw, hspl, hcat, hcer⟩ := (exec_worked hi s).structures he
    exact blockInv_of_structures hspl hcat hcer (hw.inv hs)

end Sys2Proof.Machine
end

section
/-! Surroundings of a point, and the commands that inspect the bones (44_spline.md R242, R272, R275). -/

namespace Sys2Proof.Machine

/-! The first two entries of a list in strict order. -/

/-- The first entry of a list in order is the one with none before it. -/
theorem getElem?_zero_iff {α : Type} {R : α → α → Prop} (hasymm : ∀ a b, R a b → ¬R b a) {l : List α}
    (h : l.Pairwise R) (p : α) : l[0]? = some p ↔ p ∈ l ∧ ∀ q ∈ l, ¬R q p := by
  cases l with
  | nil => simp
  | cons a l =>
    obtain ⟨ha, -⟩ := List.pairwise_cons.mp h
    simp only [List.getElem?_cons_zero, Option.some.injEq]
    constructor
    · rintro rfl
      refine ⟨List.mem_cons_self, fun q hq hqa => ?_⟩
      rcases List.mem_cons.mp hq with rfl | hq
      · exact hasymm _ _ hqa hqa
      · exact hasymm _ _ (ha q hq) hqa
    · rintro ⟨hp, hfirst⟩
      rcases List.mem_cons.mp hp with rfl | hp
      · rfl
      · exact absurd (ha p hp) (hfirst a List.mem_cons_self)

/-- The second entry of a list in order comes after the first, with none between them. -/
theorem getElem?_one_iff {α : Type} {R : α → α → Prop} (hasymm : ∀ a b, R a b → ¬R b a) {l : List α}
    (h : l.Pairwise R) (p : α) :
    l[1]? = some p ↔ ∃ k, l[0]? = some k ∧ p ∈ l ∧ R k p ∧ ∀ q ∈ l, R k q → ¬R q p := by
  cases l with
  | nil => simp
  | cons a l =>
    obtain ⟨ha, hl⟩ := List.pairwise_cons.mp h
    rw [List.getElem?_cons_succ, getElem?_zero_iff hasymm hl]
    simp only [List.getElem?_cons_zero, Option.some.injEq, exists_eq_left']
    constructor
    · rintro ⟨hp, hfirst⟩
      refine ⟨List.mem_cons_of_mem _ hp, ha p hp, fun q hq haq => ?_⟩
      rcases List.mem_cons.mp hq with rfl | hq
      · exact absurd haq (fun hr => hasymm _ _ hr hr)
      · exact hfirst q hq
    · rintro ⟨hp, hap, hbetween⟩
      rcases List.mem_cons.mp hp with rfl | hp
      · exact absurd hap (fun hr => hasymm _ _ hr hr)
      · exact ⟨hp, fun q hq => hbetween q (List.mem_cons_of_mem _ hq) (ha q hq)⟩

/-! The bones on one side of a point. -/

theorem mem_bonePoints {bones : List (Option Int)} {p : Nat × Int} :
    p ∈ bonePoints bones ↔ boneAt bones p.1 = some p.2 := by
  obtain ⟨i, y⟩ := p
  simp only [bonePoints, List.mem_filterMap, Prod.exists, List.mem_zipIdx_iff_getElem?, Option.map_eq_some_iff,
    Prod.mk.injEq, boneAt, List.getD_eq_getElem?_getD]
  constructor
  · rintro ⟨b, k, hk, z, rfl, rfl, rfl⟩
    simp [hk]
  · intro h
    cases hb : bones[i]? with
    | none => simp [hb] at h
    | some b => exact ⟨b, i, hb, y, by simpa [hb] using h, rfl, rfl⟩

theorem bonePoints_sorted (bones : List (Option Int)) : (bonePoints bones).Pairwise (fun p q => p.1 < q.1) := by
  have hidx : (bones.zipIdx.map Prod.snd).Pairwise (· < ·) := by
    rw [List.zipIdx_map_snd]
    exact List.pairwise_lt_range'
  refine List.Pairwise.filterMap _ (fun t u htu p hp q hq => ?_) (List.pairwise_map.mp hidx)
  obtain ⟨_, _, rfl⟩ := Option.map_eq_some_iff.mp hp
  obtain ⟨_, _, rfl⟩ := Option.map_eq_some_iff.mp hq
  exact htu

/-- A list of the bones on one side of a point, nearest first: `side` says which points are on it and `nearer` which of
two is nearer. -/
structure SideList (bones : List (Option Int)) (side : Nat → Prop) (nearer : Nat → Nat → Prop) (l : List (Nat × Int)) :
    Prop where
  mem : ∀ p, p ∈ l ↔ side p.1 ∧ boneAt bones p.1 = some p.2
  sorted : l.Pairwise (fun p q => nearer p.1 q.1)
  asymm : ∀ a b, nearer a b → ¬nearer b a
  closed : ∀ a b, side a → nearer a b → side b

/-- The bones strictly right of x, as Surroundings takes them. -/
theorem rightBones (bones : List (Option Int)) (x : Nat) :
    SideList bones (x < ·) (· < ·) ((bonePoints bones).filter (fun p => decide (x < p.1))) where
  mem p := by simp [List.mem_filter, mem_bonePoints, and_comm]
  sorted := (bonePoints_sorted bones).filter _
  asymm a b h := by omega
  closed a b h k := by omega

/-- The bones strictly left of x, as Surroundings takes them. -/
theorem leftBones (bones : List (Option Int)) (x : Nat) :
    SideList bones (· < x) (fun a b => b < a) ((bonePoints bones).filter (fun p => decide (p.1 < x))).reverse where
  mem p := by simp [List.mem_filter, mem_bonePoints, and_comm]
  sorted := List.pairwise_reverse.mpr ((bonePoints_sorted bones).filter _)
  asymm a b h := by omega
  closed a b h k := by omega

/-- The inner slot of a side: the nearest bone on it. -/
theorem SideList.inner {bones : List (Option Int)} {side : Nat → Prop} {nearer : Nat → Nat → Prop}
    {l : List (Nat × Int)} (h : SideList bones side nearer l) (i : Nat) (y : Int) :
    l[0]? = some (i, y) ↔
      side i ∧ boneAt bones i = some y ∧ ∀ j, side j → nearer j i → boneAt bones j = none := by
  rw [getElem?_zero_iff (fun p q => h.asymm p.1 q.1) h.sorted, h.mem, and_assoc]
  refine and_congr_right fun _ => and_congr_right fun _ => ⟨fun hnone j hj hji => ?_, fun hnone q hq hqi => ?_⟩
  · exact Option.eq_none_iff_forall_ne_some.mpr fun z hz => hnone (j, z) ((h.mem _).mpr ⟨hj, hz⟩) hji
  · obtain ⟨hs, hb⟩ := (h.mem q).mp hq
    exact absurd (hb.symm.trans (hnone q.1 hs hqi)) nofun

/-- The outer slot of a side: the next bone beyond the inner one. -/
theorem SideList.outer {bones : List (Option Int)} {side : Nat → Prop} {nearer : Nat → Nat → Prop}
    {l : List (Nat × Int)} (h : SideList bones side nearer l) (i : Nat) (y : Int) :
    l[1]? = some (i, y) ↔
      ∃ k z, l[0]? = some (k, z) ∧ nearer k i ∧ boneAt bones i = some y
        ∧ ∀ j, nearer k j → nearer j i → boneAt bones j = none := by
  rw [getElem?_one_iff (fun p q => h.asymm p.1 q.1) h.sorted, Prod.exists]
  refine exists_congr fun k => exists_congr fun z => and_congr_right fun hk => ?_
  have hside : side k := ((h.inner k z).mp hk).1
  constructor
  · rintro ⟨hmem, hki, hnone⟩
    refine ⟨hki, ((h.mem _).mp hmem).2, fun j hkj hji => ?_⟩
    exact Option.eq_none_iff_forall_ne_some.mpr fun w hw =>
      hnone (j, w) ((h.mem _).mpr ⟨h.closed k j hside hkj, hw⟩) hkj hji
  · rintro ⟨hki, hb, hnone⟩
    refine ⟨(h.mem _).mpr ⟨h.closed k i hside hki, hb⟩, hki, fun q hq hkq hqi => ?_⟩
    exact absurd (((h.mem q).mp hq).2.symm.trans (hnone q.1 hkq hqi)) nofun

/-- A side with a bone on it has its inner slot. -/
theorem SideList.inner_ne_none {bones : List (Option Int)} {side : Nat → Prop} {nearer : Nat → Nat → Prop}
    {l : List (Nat × Int)} (h : SideList bones side nearer l) {i : Nat} (hi : side i) (hb : boneAt bones i ≠ none) :
    l[0]? ≠ none := by
  obtain ⟨y, hy⟩ := Option.ne_none_iff_exists'.mp hb
  have hmem : (i, y) ∈ l := (h.mem _).mpr ⟨hi, hy⟩
  simpa using List.ne_nil_of_mem hmem

/-! The commands. -/

theorem splCheckX_pass {s : State} {x : Nat} (hv : s.spl.valid = true) (hx : x < s.spl.n) :
    splCheckX s x = .ok () := by
  simp only [splCheckX, requireSplValid, require_pos hv, require_pos hx, bind, Except.bind]

theorem exec_splBone_some {s : State} {y : Int} (h : splCheckX s (zext s.arg0) = .ok ())
    (hy : boneAt s.spl.bones (zext s.arg0) = some y) :
    exec .splBone s = .next (complete { s with res0 := pattern y, res1 := 1#32 }) := by
  show execSplBone s = _
  unfold execSplBone
  rw [h, hy]
  rfl

theorem exec_splBone_none {s : State} (h : splCheckX s (zext s.arg0) = .ok ())
    (hy : boneAt s.spl.bones (zext s.arg0) = none) :
    exec .splBone s = .next (complete { s with res0 := 0xFFFFFFFF#32, res1 := 0#32 }) := by
  show execSplBone s = _
  unfold execSplBone
  rw [h, hy]
  rfl

theorem exec_splSurr_of_check {s : State} {ys : List Int} (h : splCheckX s (zext s.arg0) = .ok ())
    (hys : (slots (surroundings s.spl.bones (zext s.arg0))).flatMap slotElements = ys) (hp : Pushable s ys) :
    exec .splSurr s = .next (complete { s with
      sout := s.sout ++ ys
      res0 := BitVec.ofNat 32 ((slots (surroundings s.spl.bones (zext s.arg0))).filter Option.isSome).length }) := by
  show execSplSurr s = _
  unfold execSplSurr
  dsimp only
  rw [h, hys, seqPushAll_ok ys s.sout hp.1 hp.2]
  rfl

/-- Settles O46: both commands pass their checks, and each side of x is a list of bones, nearest first. -/
theorem surroundingsAndInspection : Obligations.SurroundingsAndInspection := by
  refine ⟨fun s hv hx => ?_, fun bones x => ?_⟩
  · have hc : splCheckX s (zext s.arg0) = .ok () := splCheckX_pass hv hx
    refine ⟨fun y hy => exec_splBone_some hc hy, fun hy => exec_splBone_none hc hy, fun hp => ?_⟩
    refine exec_splSurr_of_check hc ?_ hp
    simp only [slots, List.flatMap_cons, List.flatMap_nil, List.append_nil, List.append_assoc]
    rfl
  · have hleft := leftBones bones x
    have hright := rightBones bones x
    refine ⟨fun i y => ?_, hright.inner, fun i y => ?_, hright.outer, fun n v hb hxn hx => ?_⟩
    · exact (hleft.inner i y).trans (and_congr_right fun _ => and_congr_right fun _ => forall_congr' fun j => forall_comm)
    · exact (hleft.outer i y).trans (exists_congr fun k => exists_congr fun z => and_congr_right fun _ =>
        and_congr_right fun _ => and_congr_right fun _ => forall_congr' fun j => forall_comm)
    · obtain ⟨-, hfirst, hlast, -⟩ := hb
      have h0 : 0 ≠ x := fun h => hfirst (h ▸ hx)
      have h1 : n - 1 ≠ x := fun h => hlast (h ▸ hx)
      exact ⟨hleft.inner_ne_none (by omega) hfirst, hright.inner_ne_none (by omega) hlast⟩

end Sys2Proof.Machine
end

section
/-! The start of a command and the two ends of it, and the accesses of the register window at its edges. -/

namespace Sys2Proof.Machine

/-! The start of a command. -/

/-- A mask of CTL.FLUSH is read back from the command word as it is. -/
theorem decode_encode_ctlFlush (m : BitVec 8) : decode (encode (.ctlFlush m)) = .ok (.ctlFlush m) := by
  revert m
  decide

/-- The decoder reads an instruction back from its command word; a domain is one of three, and every other field but the
mask of CTL.FLUSH is fixed by the row of the opcode map (30_encoding.md R93..R95). -/
theorem decode_encode (i : Instr) : decode (encode i) = .ok i := by
  cases i with
  | ctlFlush m => exact decode_encode_ctlFlush m
  | encUnary d | encGamma d | encDelta d | encFib d | encTrib d | encEnb4 d | encEnb5 d | encEnb6 d | encEnb7 d
  | encEnb8 d | encGfib d | encDfib d | encGiota d | encDiota d
  | decUnary d | decGamma d | decDelta d | decFib d | decTrib d | decEnb4 d | decEnb5 d | decEnb6 d | decEnb7 d
  | decEnb8 d | decGfib d | decDfib d | decGiota d | decDiota d
  | encseqUnary d | encseqGamma d | encseqDelta d | encseqFib d | encseqTrib d | encseqEnb4 d | encseqEnb5 d
  | encseqEnb6 d | encseqEnb7 d | encseqEnb8 d | encseqGfib d | encseqDfib d | encseqGiota d | encseqDiota d
  | decseqUnary d | decseqGamma d | decseqDelta d | decseqFib d | decseqTrib d | decseqEnb4 d | decseqEnb5 d
  | decseqEnb6 d | decseqEnb7 d | decseqEnb8 d | decseqGfib d | decseqDfib d | decseqGiota d | decseqDiota d =>
    cases d <;> rfl
  | _ => rfl

theorem hostTurn_idle {s : State} {ev : HostEvent} {rest : List HostEvent} (hs : s.seq = .idle)
    (hh : s.host = ev :: rest) : hostTurn s = some (ev.access, rest) := by
  simp [hostTurn, hh, hs]

/-- The oldest access of an IDLE block is the next step. -/
theorem step_idle {s : State} {ev : HostEvent} {rest : List HostEvent} (hs : s.seq = .idle)
    (hh : s.host = ev :: rest) : step s = .next (hostAccess ev.access { s with host := rest }) := by
  obtain ⟨a, r, ht, he⟩ | ⟨ht, -⟩ | ⟨ht, -⟩ := step_cases s <;> cases (hostTurn_idle hs hh).symm.trans ht
  exact he

theorem withFetchWord_eq (s : State) (w : Word) :
    s.withFetchWord 32 w.toNat = startCommand w { s with host := waiting s.host } := by
  unfold State.withFetchWord latchWord
  rw [Nat.mod_eq_of_lt w.isLt, BitVec.ofNat_toNat, BitVec.setWidth_eq]

theorem quiet_of_waiting {s : State} {events : List HostEvent} (h : s.host = waiting events) : Quiet s := by
  intro ev hev
  rw [h, waiting, List.head?_map] at hev
  obtain ⟨_, -, rfl⟩ := Option.map_eq_some_iff.mp hev
  rfl

theorem started_startCommand (w : Word) (s : State) : Started (startCommand w s) := ⟨rfl, rfl, rfl, rfl, rfl⟩

/-- Settles O5: the first host access of an IDLE block is performed, and a placed word stands in a quiet started state, so
that the step decodes and runs it. -/
theorem commandStart : Obligations.CommandStart := by
  refine ⟨fun s b v rest hs hh => ?_, fun s i _ => ?_⟩
  · have hw : hostAccess (.write 0x00#8 4 v) { s with host := rest } = startCommand v { s with host := rest } :=
      hostWrite_idle (r := .cmd) v hs rfl rfl
    exact (step_idle hs hh).trans (congrArg _ hw)
  · rw [withFetchWord_eq]
    exact ⟨stepRunsCommand _ i rfl (quiet_of_waiting rfl) (decode_encode i), started_startCommand _ _, rfl⟩

/-- Settles O6: both ends of a command are record updates. -/
theorem commandEndFields : Obligations.CommandEndFields := ⟨fun _ _ _ _ => rfl, fun _ => rfl⟩

/-! Accesses in either state of the sequencer. -/

/-- A write that does not overrun is performed alike whether or not a command runs. -/
theorem hostWrite_either {off : BitVec 8} {w : Nat} {r : Reg} (v : Word) (s : State) (ha : accessOk off w = true)
    (hr : regAt off.toNat = some r) (ho : overrunsOnWrite r = false) :
    hostAccess (.write off w v) s = writeIdle r v s := by
  cases hs : s.seq with
  | idle => exact hostWrite_idle v hs ha hr
  | busy => simp [hostAccess, hostWrite, ha, hr, hs, writeBusy, ho]

/-- A reserved offset ignores writes and reads 0. -/
theorem reservedOffset {off : BitVec 8} {w : Nat} (v : Word) (s : State) (ha : accessOk off w = true)
    (hr : regAt off.toNat = none) :
    hostAccess (.write off w v) s = s ∧ hostAccess (.read off w) s = returned 0#32 s := by
  simp [hostAccess, hostWrite, hostRead, ha, hr]

/-- An access that the window does not define is ignored, reads 0 and sets PORTERR. -/
theorem undefinedAccess {off : BitVec 8} {w : Nat} (v : Word) (s : State) (ha : accessOk off w = false) :
    hostAccess (.write off w v) s = { s with status := statusPortErr s.status }
      ∧ hostAccess (.read off w) s = returned 0#32 { s with status := statusPortErr s.status } := by
  simp [hostAccess, hostWrite, hostRead, ha]

theorem accessOk_iff (off : BitVec 8) (w : Nat) : accessOk off w = true ↔ w = 4 ∧ off.toNat % 4 = 0 := by
  simp [accessOk]

/-- No register stands at an offset that the table of the window reserves. -/
theorem regAt_reserved : ∀ off : BitVec 8, off.toNat % 4 = 0 →
    off.toNat ∈ [0x18, 0x1C, 0x38, 0x3C, 0x5C] ∨ 0x98 ≤ off.toNat → regAt off.toNat = none := by decide

/-- Settles O18: each access is the one arm of the window that its offset and width select. -/
theorem windowEdges : Obligations.WindowEdges := by
  intro s v
  refine ⟨hostWrite_either (r := .status) v s rfl rfl rfl, fun off w hw => ?_, fun off hoff hres => ?_, ?_⟩
  · exact undefinedAccess v s (Bool.eq_false_iff.mpr fun ha => hw ((accessOk_iff off w).mp ha))
  · exact reservedOffset v s ((accessOk_iff off 4).mpr ⟨rfl, hoff⟩) (regAt_reserved off hoff hres)
  · have ignored {off : BitVec 8} {r : Reg} (ha : accessOk off 4 = true) (hr : regAt off.toNat = some r)
        (ho : overrunsOnWrite r = false) (hw : writeIdle r v s = s) : hostAccess (.write off 4 v) s = s :=
      (hostWrite_either v s ha hr ho).trans hw
    simp only [List.forall_mem_cons]
    exact ⟨ignored rfl rfl rfl rfl, ignored rfl rfl rfl rfl, ignored rfl rfl rfl rfl, ignored rfl rfl rfl rfl,
      ignored rfl rfl rfl rfl, ignored rfl rfl rfl rfl, ignored rfl rfl rfl rfl, ignored rfl rfl rfl rfl,
      ignored rfl rfl rfl rfl, ignored rfl rfl rfl rfl, ignored rfl rfl rfl rfl, ignored rfl rfl rfl rfl,
      ignored rfl rfl rfl rfl, ignored rfl rfl rfl rfl, ignored rfl rfl rfl rfl, ignored rfl rfl rfl rfl,
      ignored rfl rfl rfl rfl, ignored rfl rfl rfl rfl, nofun⟩

/-- Settles O17: each port is one arm of the IDLE window, with a branch for the full and for the empty stream. -/
theorem streamPortAccess : Obligations.StreamPortAccess := by
  intro s v hs
  refine ⟨hostWrite_idle (r := .binPush) v hs rfl rfl, hostWrite_idle (r := .sinPush) v hs rfl rfl, ?_, ?_⟩
  · rw [hostRead_idle (r := .boutPop) hs rfl rfl]
    show popBout s = _
    unfold popBout
    cases s.bout with
    | nil => rfl
    | cons b rest => cases b <;> rfl
  · rw [hostRead_idle (r := .soutPop) hs rfl rfl]
    show popSout s = _
    unfold popSout
    cases s.sout <;> rfl

end Sys2Proof.Machine
end

section
/-! How every command ends, and what a command that raises an error leaves. -/

namespace Sys2Proof.Machine

/-! The end of every command. -/

/-- The work of a command leaves STATUS and the error report to the command's end. -/
theorem Framed.report {s u : State} (h : Framed s u) :
    u.status = s.status ∧ u.errCmd = s.errCmd ∧ u.errInfo = s.errInfo ∧ u.errSub = s.errSub := by
  rw [← h.frame]
  exact ⟨rfl, rfl, rfl, rfl⟩

/-- Settles O10: CTL.SRESET completes in the reset state, and every other command in one of the three ends, which write
STATUS as the frame of its work left it. -/
theorem everyCommandEnds : Obligations.EveryCommandEnds := by
  intro i s hs
  obtain ⟨-, -, -, -, herr⟩ := hs
  by_cases hi : i = .ctlSreset
  · subst hi
    exact ⟨_, exec_ctlSreset s, rfl, rfl, ⟨fun _ => rfl, fun _ => rfl⟩, rfl, rfl,
      fun _ => ⟨rfl, fun hne => absurd rfl hne⟩⟩
  · obtain ⟨u, hw, hend⟩ := exec_worked hi s
    obtain ⟨hst, hcmd, hinfo, hsub⟩ := hw.framed.report
    obtain h | h | ⟨e, h⟩ := hend <;> refine ⟨_, h, rfl, rfl, ?_⟩
    · simp [hst, hcmd, hinfo, hsub, herr]
    · simp [hst, hcmd, hinfo, hsub, herr]
    · simp [hst]

/-! What an error leaves. -/

/-- If the outcome is no normal end, it is the report of an error in a state with P. -/
def FailsLeaving (P : State → Prop) (o : Host.Outcome State Fault Refusal) : Prop :=
  ∀ t, o = .next t → t.status.done = false → ∃ e u, P u ∧ t = raiseError e u

theorem FailsLeaving.complete (P : State → Prop) (u : State) : FailsLeaving P (.next (complete u)) := by
  intro t ht hd
  cases ht
  cases hd

theorem FailsLeaving.noChange (P : State → Prop) (u : State) : FailsLeaving P (.next (completeNoChange u)) := by
  intro t ht hd
  cases ht
  cases hd

theorem FailsLeaving.raise {P : State → Prop} {u : State} (e : Err) (hu : P u) :
    FailsLeaving P (.next (raiseError e u)) := by
  intro t ht _
  cases ht
  exact ⟨e, u, hu, rfl⟩

theorem endCommand_failsLeaving {P : State → Prop} {s : State} {r : Except Err State} (hs : P s) :
    FailsLeaving P (endCommand s r) := by
  obtain ⟨t, -, he⟩ | ⟨e, -, he⟩ := endCommand_cases s r
  · exact he ▸ .complete P t
  · exact he ▸ .raise e hs

/-- The states in which an error of a command may be reported (60_exceptions.md R324): the command's own start; for
SPL.PREDALL a value cache that was filled on the way; for the four commands that run a block the structures at the point of
the error with PHASE = FAILED, which an error of CER.RUN or CER.BLOCK always sets. -/
inductive ErrorLeaves (s : State) : Instr → State → Prop where
  | start {i : Instr} : i ≠ .cerRun → i ≠ .cerBlock → ErrorLeaves s i s
  | cached (vc : List VcEntry) : ErrorLeaves s .splPredall { s with spl := { s.spl with vc := vc } }
  | failed {i : Instr} (u : State) : i ∈ [Instr.cerRun, .cerBlock, .cerEncblk, .cerDecblk] →
      ErrorLeaves s i (failedBlock s u)

/-- Predictions pushed one after the other fill the value cache and nothing else. -/
theorem predictPush_frame (xs : List Nat) (spl : Spline) (q : List Int) :
    ∃ vc, (predictPush xs spl q).1 = { spl with vc := vc } := by
  induction xs generalizing spl q with
  | nil => exact ⟨spl.vc, rfl⟩
  | cons x xs ih =>
    obtain ⟨vc, hvc⟩ := predict_frame spl x
    simp only [predictPush]
    cases seqPush q (predict spl x).1 with
    | error e => exact ⟨vc, hvc⟩
    | ok q' =>
      obtain ⟨vc', h⟩ := ih (predict spl x).2 q'
      exact ⟨vc', by rw [h, hvc]⟩

theorem execSplPredall_errorLeaves (s : State) : FailsLeaving (ErrorLeaves s .splPredall) (execSplPredall s) := by
  obtain ⟨vc, hvc⟩ := predictPush_frame (List.range s.spl.n) s.spl s.sout
  unfold execSplPredall
  split
  · exact .raise _ (.start nofun nofun)
  · split
    · rename_i spl e he
      obtain rfl : spl = { s.spl with vc := vc } := by rw [← hvc, he]
      exact .raise e (.cached vc)
    · exact .complete _ _

theorem execCatClamp_errorLeaves (s : State) : FailsLeaving (ErrorLeaves s .catClamp) (execCatClamp s) := by
  unfold execCatClamp
  split
  · exact .raise _ (.start nofun nofun)
  · dsimp only
    split
    · exact .complete _ _
    · split
      · exact .complete _ _
      · exact .noChange _ _

theorem execCerRun_errorLeaves (s : State) : FailsLeaving (ErrorLeaves s .cerRun) (execCerRun s) := by
  unfold execCerRun
  cases whenActive run s with
  | raised e t => exact .raise e (.failed t (by simp))
  | done t final => exact .complete _ _

theorem execCerBlock_errorLeaves (s : State) : FailsLeaving (ErrorLeaves s .cerBlock) (execCerBlock s) := by
  unfold execCerBlock
  cases whenActive runBlock s with
  | raised e t => exact .raise e (.failed t (by simp))
  | done t final => exact .complete _ _

theorem execCerEncblk_errorLeaves (s : State) : FailsLeaving (ErrorLeaves s .cerEncblk) (execCerEncblk s) := by
  unfold execCerEncblk
  split
  · exact .raise _ (.start nofun nofun)
  · rename_i c t _
    cases runBlock t with
    | raised e u => exact .raise e (.failed u (by simp))
    | done u final =>
      unfold endEncblk
      dsimp only
      split
      · exact .raise _ (.failed u (by simp))
      · exact .complete _ _

theorem execCerDecblk_errorLeaves (s : State) : FailsLeaving (ErrorLeaves s .cerDecblk) (execCerDecblk s) := by
  unfold execCerDecblk
  split
  · exact .raise _ (.start nofun nofun)
  · rename_i t _
    cases runBlock t with
    | raised e u => exact .raise e (.failed u (by simp))
    | done u final =>
      unfold endDecblk
      dsimp only
      split
      · exact .raise _ (.failed u (by simp))
      · exact .complete _ _

/-- Six commands have an end of their own and three cannot fail; every other one checks before it changes anything. -/
theorem exec_errorLeaves (i : Instr) (s : State) : FailsLeaving (ErrorLeaves s i) (exec i s) := by
  cases i with
  | catClamp => exact execCatClamp_errorLeaves s
  | splPredall => exact execSplPredall_errorLeaves s
  | cerRun => exact execCerRun_errorLeaves s
  | cerBlock => exact execCerBlock_errorLeaves s
  | cerEncblk => exact execCerEncblk_errorLeaves s
  | cerDecblk => exact execCerDecblk_errorLeaves s
  | ctlNop | ctlSreset | ctlCinv => exact .complete _ _
  | _ => exact endCommand_failsLeaving (ErrorLeaves.start nofun nofun)

/-- Whatever the error, the streams, the results and the command word are those of the start. -/
theorem ErrorLeaves.streams {s u : State} {i : Instr} (h : ErrorLeaves s i u) :
    u.bin = s.bin ∧ u.bout = s.bout ∧ u.sin = s.sin ∧ u.sout = s.sout ∧ u.res0 = s.res0 ∧ u.res1 = s.res1
      ∧ u.cur = s.cur := by
  cases h <;> exact ⟨rfl, rfl, rfl, rfl, rfl, rfl, rfl⟩

/-- The structures after an error: those of the start but for the value cache, or a block in PHASE = FAILED. -/
theorem ErrorLeaves.structures {s u : State} {i : Instr} (h : ErrorLeaves s i u) :
    (u.cat = s.cat ∧ u.cer = s.cer ∧ { u.spl with vc := s.spl.vc } = s.spl ∧ i ≠ .cerRun ∧ i ≠ .cerBlock)
      ∨ (u.cer.phase = .failed ∧ i ∈ [Instr.cerRun, .cerBlock, .cerEncblk, .cerDecblk]) := by
  cases h with
  | start hr hb => exact .inl ⟨rfl, rfl, rfl, hr, hb⟩
  | cached vc => exact .inl ⟨rfl, rfl, rfl, nofun, nofun⟩
  | failed t hi => exact .inr ⟨rfl, hi⟩

/-- Settles O11: an outcome that is no normal end is the report of an error in one of the states `ErrorLeaves`. -/
theorem errorRestoresState : Obligations.ErrorRestoresState := by
  intro i s t hs h herr
  obtain ⟨t', ht', -, -, hdone, -⟩ := everyCommandEnds i s hs
  cases h.symm.trans ht'
  obtain ⟨e, u, hu, rfl⟩ := exec_errorLeaves i s t h (Bool.eq_false_iff.mpr fun hd => herr (hdone.mp hd))
  obtain ⟨hbin, hbout, hsin, hsout, hr0, hr1, hcur⟩ := hu.streams
  refine ⟨hbin, hbout, hsin, hsout, hr0, hr1, hcur, rfl, rfl, rfl, ?_⟩
  obtain ⟨hcat, hcer, hspl, hrun, hblock⟩ | ⟨hphase, hi⟩ := hu.structures
  · have hbones : u.spl.bones = s.spl.bones := by rw [← hspl]
    exact ⟨fun _ _ _ _ => ⟨hcat, hcer, hspl⟩, by simp [hcat, hcer, hbones], by simp [hrun, hblock]⟩
  · refine ⟨fun h1 h2 h3 h4 => ?_, fun _ => hphase, fun _ => hphase⟩
    simp [h1, h2, h3, h4] at hi

end Sys2Proof.Machine
end

section
/-! How the codec and haven commands refuse their operands and configuration. -/

namespace Sys2Proof.Machine

/-! The commands of a codec by their shared bodies. -/

theorem exec_encInstr (c : Codec) (d : Dom) (s : State) : exec (encInstr c d) s = endCommand s (ucEnc c d s) := by
  cases c <;> rfl

theorem exec_decInstr (c : Codec) (d : Dom) (s : State) : exec (decInstr c d) s = endCommand s (ucDec c d s) := by
  cases c <;> rfl

theorem exec_encseqInstr (c : Codec) (d : Dom) (s : State) :
    exec (encseqInstr c d) s = endCommand s (ucEncSeq c d s) := by
  cases c <;> rfl

theorem exec_decseqInstr (c : Codec) (d : Dom) (s : State) :
    exec (decseqInstr c d) s = endCommand s (ucDecSeq c d s) := by
  cases c <;> rfl

theorem exec_haveneInstr (c : Codec) (s : State) : exec (haveneInstr c) s = endCommand s (havenEnc c s) := by
  cases c <;> rfl

theorem exec_havendInstr (c : Codec) (s : State) : exec (havendInstr c) s = endCommand s (havenDec c s) := by
  cases c <;> rfl

/-! Checks at the head of a command. -/

theorem bind_of_error {ε α β : Type} {x : Except ε α} {e : ε} (h : x = .error e) (f : α → Except ε β) :
    x >>= f = .error e := (except_bind_error x f e).mpr (.inl h)

theorem bind_of_ok {ε α β : Type} {x : Except ε α} {a : α} (h : x = .ok a) (f : α → Except ε β) : x >>= f = f a := by
  rw [h]
  rfl

theorem endCommand_of_error {s : State} {r : Except Err State} {e : Err} (h : r = .error e) :
    endCommand s r = .next (raiseError e s) := by
  rw [h]
  rfl

theorem requireBound_pass {c : Codec} {m : Nat} (h : isIota c = true → 3 ≤ m) : requireBound c m = .ok () := by
  refine require_pos ?_ _
  cases hc : isIota c with
  | false => exact .inl rfl
  | true => exact .inr (h hc)

theorem requireBound_refuse {c : Codec} {m : Nat} (hc : isIota c = true) (hm : m < 3) :
    requireBound c m = .error (domainErr 0x31#8 (.val m)) := require_neg (by simp [hc]; omega) _

theorem requireHaven_pass {s : State} (h0 : hb0Field s.cfgHaven ≤ 31) (hb : bfnField s.cfgHaven ≤ 1) :
    requireHaven s = .ok () := (bind_of_ok (require_pos h0 _) _).trans (require_pos hb _)

theorem requireHaven_bucket {s : State} (h0 : 31 < hb0Field s.cfgHaven) :
    requireHaven s = .error (domainErr 0x33#8 (.val (hb0Field s.cfgHaven))) :=
  bind_of_error (require_neg (by omega) _) _

theorem requireHaven_function {s : State} (h0 : hb0Field s.cfgHaven ≤ 31) (hb : 1 < bfnField s.cfgHaven) :
    requireHaven s = .error (illegalErr 0x55#8 (.val s.cfgHaven.toNat)) :=
  (bind_of_ok (require_pos h0 _) _).trans (require_neg (by omega) _)

/-! Encoding one value. -/

/-- The operand of UC.ENC is negative in the signed domain only. -/
theorem encOperand_sign (d : Dom) (s : State) : d = .signed ∨ 0 ≤ encOperand d s := by
  cases d with
  | signed => exact .inl rfl
  | native | unsigned => exact .inr (Int.natCast_nonneg _)

theorem encodeOne_outside {c : Codec} {m : Nat} {d : Dom} {a : Int} (info : Int) (b : Bits) (hs : d = .signed ∨ 0 ≤ a)
    (hd : inDomain c m (adaptIn d c a) = false) :
    encodeOne c m d a info b = .error (domainErr 0x30#8 (.val info)) :=
  (bind_of_ok (require_pos hs _) _).trans (bind_of_error (require_neg (by simp [hd]) _) _)

theorem encodeOne_inside {c : Codec} {m : Nat} {d : Dom} {a : Int} (info : Int) (b : Bits) (hs : d = .signed ∨ 0 ≤ a)
    (hd : inDomain c m (adaptIn d c a) = true) :
    encodeOne c m d a info b = bitsWrite b (codeword c m d a).length (codeword c m d a) := by
  unfold codeword
  rw [← codeLen_eq]
  exact (bind_of_ok (require_pos hs _) _).trans (bind_of_ok (require_pos hd _) _)

theorem bitsWrite_full {b w : Bits} {len : Nat} (hb : b.length ≤ Config.bitCap) (h : Config.bitCap < b.length + len) :
    bitsWrite b len w = .error (capacityErr 0x60#8 (.val Config.bitCap)) := if_pos ⟨h, hb⟩

/-! The refusals. -/

/-- UC.ENC fails as the encoding of its one value does. -/
theorem exec_encInstr_refused {c : Codec} {d : Dom} {s : State} {e : Err} (hm : isIota c = true → 3 ≤ s.arg1.toNat)
    (h : encodeOne c (boundArg s) d (encOperand d s) (zext s.arg0) s.bout = .error e) :
    exec (encInstr c d) s = .next (raiseError e s) := by
  rw [exec_encInstr]
  exact endCommand_of_error ((bind_of_ok (requireBound_pass hm) _).trans (bind_of_error h _))

/-- A command of a codec whose first check is that of the Iota bound. -/
theorem exec_uc_badBound {c : Codec} (d : Dom) {s : State} (hc : isIota c = true) (hm : s.arg1.toNat < 3) :
    ∀ i ∈ [encInstr c d, decInstr c d, encseqInstr c d, decseqInstr c d],
      exec i s = .next (raiseError (domainErr 0x31#8 (.val s.arg1.toNat)) s) := by
  have hb : requireBound c (boundArg s) = _ := requireBound_refuse hc hm
  simp only [List.forall_mem_cons, exec_encInstr, exec_decInstr, exec_encseqInstr, exec_decseqInstr]
  exact ⟨endCommand_of_error (bind_of_error hb _), endCommand_of_error (bind_of_error hb _),
    endCommand_of_error (bind_of_error hb _), endCommand_of_error (bind_of_error hb _), nofun⟩

/-- Both haven commands check CFG_HAVEN and then the Iota bound, before any data is read. -/
theorem exec_haven_refused {c : Codec} {s : State} {e : Err}
    (h : (do requireHaven s; requireBound c (boundArg s) : Except Err Unit) = .error e) :
    ∀ i ∈ [haveneInstr c, havendInstr c], exec i s = .next (raiseError e s) := by
  have hbody (k : Except Err State) : (do requireHaven s; requireBound c (boundArg s); k) = .error e := by
    obtain hh | ⟨_, hh, hb⟩ := (except_bind_error _ _ _).mp h
    · exact bind_of_error hh _
    · exact (bind_of_ok hh _).trans (bind_of_error hb _)
  simp only [List.forall_mem_cons, exec_haveneInstr, exec_havendInstr]
  exact ⟨endCommand_of_error (hbody _), endCommand_of_error (hbody _), nofun⟩

/-- Settles O27: each refusal is the first of the command's checks that fails. -/
theorem codecOperandRefusals : Obligations.CodecOperandRefusals := by
  refine ⟨fun c d s hm => ⟨fun hout => ?_, fun hin hfit hlong => ?_⟩,
    fun c d s hc hm => ⟨exec_uc_badBound d hc hm, fun h0 hb => ?_⟩, fun c s i hi => ⟨fun h0 => ?_, fun h0 hb => ?_⟩⟩
  · exact exec_encInstr_refused hm (encodeOne_outside _ _ (encOperand_sign d s) hout)
  · exact exec_encInstr_refused hm ((encodeOne_inside _ _ (encOperand_sign d s) hin).trans (bitsWrite_full hfit hlong))
  · exact exec_haven_refused ((bind_of_ok (requireHaven_pass h0 hb) _).trans (requireBound_refuse hc hm))
  · exact exec_haven_refused (bind_of_error (requireHaven_bucket h0) _) i hi
  · exact exec_haven_refused (bind_of_error (requireHaven_function h0 hb) _) i hi

end Sys2Proof.Machine
end

section
/-! How the transforms refuse an element, an item, a heading and an output that does not fit. -/

namespace Sys2Proof.Machine

/-! Pushes behind a check. -/

/-- A push behind a check of the element, over a list: the elements that pass are pushed, and the first one that fails is
named (60_exceptions.md R330). -/
theorem checkedPushes_refused {p : Int → Prop} [DecidablePred p] {err : Int → Err} {g : Int → Int} {s : State}
    {pre post : List Int} {e : Int} (hpre : ∀ x ∈ pre, p x) (he : ¬p e) (hs : Pushable s (pre.map g)) :
    (pre ++ e :: post).foldlM (fun q x => do require (p x) (err x); seqPush q (g x)) s.sout = .error (err e) := by
  have pass : ∀ q : List Int, pre.foldlM (fun q x => do require (p x) (err x); seqPush q (g x)) q
      = seqPushAll q (pre.map g) := by
    clear hs
    induction pre with
    | nil => exact fun q => rfl
    | cons x pre ih =>
      intro q
      obtain ⟨hx, hpre⟩ := List.forall_mem_cons.mp hpre
      rw [List.foldlM_cons, bind_of_ok (require_pos hx _), List.map_cons, seqPushAll, List.foldlM_cons]
      exact congrArg _ (funext (ih hpre))
  rw [List.foldlM_append, bind_of_ok ((pass _).trans (seqPushAll_ok _ _ hs.1 hs.2)), List.foldlM_cons]
  exact bind_of_error (bind_of_error (require_neg he _) _) _

/-- A check of every element of a list names the first one that fails. -/
theorem checks_refused {p : Int → Prop} [DecidablePred p] {err : Int → Err} {pre post : List Int} {e : Int}
    (hpre : ∀ x ∈ pre, p x) (he : ¬p e) :
    (pre ++ e :: post).forM (fun x => require (p x) (err x)) = .error (err e) := by
  induction pre with
  | nil => exact bind_of_error (require_neg he _) _
  | cons x pre ih =>
    obtain ⟨hx, hpre⟩ := List.forall_mem_cons.mp hpre
    exact (bind_of_ok (require_pos hx _) _).trans (ih hpre)

theorem seqPushAll_full {q : List Int} (hq : q.length = Config.seqCap) (v : Int) (vs : List Int) :
    seqPushAll q (v :: vs) = .error (capacityErr 0x61#8 (.val Config.seqCap)) := by
  rw [seqPushAll, List.foldlM_cons]
  exact bind_of_error (if_pos hq) _

/-- Elements that fit, then one that SOUT has room for but that is out of the element range. -/
theorem seqPushAll_outside {s : State} {pre post : List Int} {v : Int} (hs : Pushable s pre)
    (hroom : s.sout.length + pre.length < Config.seqCap) (hv : ¬inElemRange v) :
    seqPushAll s.sout (pre ++ v :: post) = .error (domainErr 0x62#8 (.val v)) := by
  have hpre : pre.foldlM seqPush s.sout = .ok (s.sout ++ pre) := seqPushAll_ok pre s.sout hs.1 hs.2
  rw [seqPushAll, List.foldlM_append, bind_of_ok hpre, List.foldlM_cons]
  refine bind_of_error ?_ _
  obtain ⟨-, h, -⟩ | ⟨h, -⟩ | ⟨-, -, h⟩ := seqPush_cases (s.sout ++ pre) v
  · exact absurd h hv
  · rw [List.length_append] at h
    omega
  · exact h

/-- A sequence command fails as its function of SIN and SOUT does. -/
theorem xfSeq_refused {f : List Int → List Int → Except Err (List Int)} {s : State} {e : Err}
    (h : f s.sin s.sout = .error e) : endCommand s (xfSeq f s) = .next (raiseError e s) :=
  endCommand_of_error (bind_of_error h _)

/-! Elements. -/

/-- FocusedZigZag of the model by the cases of 42_transforms.md R175. -/
theorem focusedZigZag_eq (v f : Int) : focusedZigZag v f = foldAround v f := by
  unfold focusedZigZag foldAround zigZag
  split
  · split <;> split <;> omega
  · rfl

/-- FocusedUnZigZag of the model by the cases of 42_transforms.md R175. -/
theorem focusedUnZigZag_eq (u f : Int) : focusedUnZigZag u f = unfoldAround u f := by
  unfold focusedUnZigZag unfoldAround unZigZag
  simp only [Int.even_iff]
  split
  · split <;> omega
  · rfl

theorem focus_refused {s : State} (h : 2 ^ 30 ≤ s.arg0.toNat) :
    ∀ i ∈ [Instr.xfFzze, .xfFzzd], exec i s = .next (raiseError (domainErr 0x30#8 (.val s.arg0.toNat)) s) := by
  have hf (g : Int → Int → Int) : xfFocused g s = .error (domainErr 0x30#8 (.val s.arg0.toNat)) :=
    bind_of_error (require_neg (not_lt.mpr h) _) _
  simp only [List.forall_mem_cons]
  exact ⟨endCommand_of_error (hf _), endCommand_of_error (hf _), nofun⟩

section
variable {s : State} {pre post : List Int} {e : Int}

theorem xfFocused_refused {g : Int → Int → Int} (hs : s.sin = pre ++ e :: post) (hpre : ∀ x ∈ pre, 0 ≤ x) (he : e < 0)
    (hf : s.arg0.toNat < 2 ^ 30) (hp : Pushable s (pre.map (fun v => g v s.arg0.toNat))) :
    endCommand s (xfFocused g s) = .next (raiseError (domainErr 0x30#8 (.val e)) s) := by
  refine endCommand_of_error ((bind_of_ok (require_pos hf _) _).trans (bind_of_error ?_ _))
  rw [hs]
  exact checkedPushes_refused (p := fun x => 0 ≤ x) (err := fun x => domainErr 0x30#8 (.val x)) hpre (by omega) hp

theorem exec_xfZzd_refused (hs : s.sin = pre ++ e :: post) (hpre : ∀ x ∈ pre, 0 ≤ x) (he : e < 0)
    (hp : Pushable s (pre.map unZigZag)) : exec .xfZzd s = .next (raiseError (domainErr 0x30#8 (.val e)) s) := by
  refine xfSeq_refused ?_
  rw [hs]
  exact checkedPushes_refused (p := fun x => 0 ≤ x) (err := fun x => domainErr 0x30#8 (.val x)) hpre (by omega) hp

/-- Both ruler transforms check every element before they push. -/
theorem ruler_refused (f : List Int → List Int) (hs : s.sin = pre ++ e :: post) (hpre : ∀ x ∈ pre, 0 ≤ x) (he : e < 0) :
    endCommand s (xfSeq (fun xs sout => do xs.forM requireNonneg; seqPushAll sout (f xs)) s)
      = .next (raiseError (domainErr 0x30#8 (.val e)) s) := by
  refine xfSeq_refused (bind_of_error ?_ _)
  rw [hs]
  exact checks_refused (p := fun x => 0 ≤ x) (err := fun x => domainErr 0x30#8 (.val x)) hpre (by omega)

/-- A negative residual after residuals that pass (42_transforms.md R199, R201). -/
theorem residuals_refused {g : Int → Int} (hpre : ∀ x ∈ pre, 0 ≤ x) (he : e < 0) (hp : Pushable s (pre.map g)) :
    (pre ++ e :: post).foldlM (residualPush g) s.sout = .error (parseErr 0x15#8 (.val e)) :=
  checkedPushes_refused (p := fun x => 0 ≤ x) (err := fun x => parseErr 0x15#8 (.val x)) hpre (by omega) hp

theorem exec_xfFlrd_refused {h : Int} (hs : s.sin = h :: (pre ++ e :: post)) (hpre : ∀ x ∈ pre, 0 ≤ x) (he : e < 0)
    (hp : Pushable s (pre.map (fun x => x + h))) :
    exec .xfFlrd s = .next (raiseError (parseErr 0x15#8 (.val e)) s) := by
  refine xfSeq_refused ?_
  rw [hs]
  exact residuals_refused hpre he hp

theorem exec_xfMedd_refused {h : Int} (hs : s.sin = h :: (pre ++ e :: post)) (hpre : ∀ x ∈ pre, 0 ≤ x) (he : e < 0)
    (hp : Pushable s (pre.map (fun x => unZigZag x + h))) :
    exec .xfMedd s = .next (raiseError (parseErr 0x15#8 (.val e)) s) := by
  refine xfSeq_refused ?_
  rw [hs]
  exact residuals_refused hpre he hp

theorem exec_xfZze_refused (hs : s.sin = pre ++ e :: post) (hp : Pushable s (pre.map zigZag))
    (hroom : s.sout.length + pre.length < Config.seqCap) (he : e < -2 ^ 30 ∨ 2 ^ 30 ≤ e) :
    exec .xfZze s = .next (raiseError (domainErr 0x62#8 (.val (zigZag e))) s) := by
  have hout : ¬inElemRange (zigZag e) := by
    unfold inElemRange zigZag
    split <;> omega
  refine xfSeq_refused ?_
  rw [hs, List.map_append, List.map_cons]
  exact seqPushAll_outside hp (by simpa using hroom) hout

end

/-- A full SOUT refuses every encoding transform of a sequence that is not empty. -/
theorem soutFull_refused {s : State} (hs : s.sin ≠ []) (hfull : s.sout.length = Config.seqCap) :
    ∀ i ∈ [Instr.xfDeltae, .xfDeltad, .xfZze, .xfPale, .xfFlre, .xfMede],
      exec i s = .next (raiseError (capacityErr 0x61#8 (.val Config.seqCap)) s) := by
  obtain ⟨x, xs, hx⟩ := List.exists_cons_of_ne_nil hs
  have refused {f : List Int → List Int → Except Err (List Int)} {v : Int} {vs : List Int}
      (h : f (x :: xs) s.sout = seqPushAll s.sout (v :: vs)) :
      endCommand s (xfSeq f s) = .next (raiseError (capacityErr 0x61#8 (.val Config.seqCap)) s) :=
    xfSeq_refused (by rw [hx, h, seqPushAll_full hfull])
  simp only [List.forall_mem_cons]
  exact ⟨refused rfl, refused rfl, refused rfl, refused rfl, refused rfl, refused rfl, nofun⟩

/-! Tracked sum. -/

/-- The field width of the tracked sum is the least one that holds the remaining budget (42_transforms.md R180). -/
theorem tsumWidth_eq (r : Nat) : tsumWidth r = Nat.clog 2 (r + 1) := by
  unfold tsumWidth ceilLog2
  split
  · rename_i h
    exact (Nat.clog_of_right_le_one h 2).symm
  · rw [Nat.add_sub_cancel]
    have hlo : Nat.log2 r < Nat.clog 2 (r + 1) :=
      (Nat.lt_clog_iff_pow_lt (by omega)).mpr (Nat.lt_succ_of_le (Nat.log2_self_le (by omega)))
    have hhi : Nat.clog 2 (r + 1) ≤ Nat.log2 r + 1 := (Nat.clog_le_iff_le_pow (by omega)).mpr Nat.lt_log2_self
    omega

theorem lt_two_pow_tsumWidth {n r : Nat} (h : n ≤ r) : n < 2 ^ tsumWidth r := by
  rw [tsumWidth_eq]
  exact (Nat.lt_succ_of_le h).trans_le (Nat.le_pow_clog (by omega) _)

theorem tsumBits_cons (total n : Nat) (ns : List Nat) :
    tsumBits total (n :: ns) = binMsb (tsumWidth total) n ++ tsumBits (total - n) ns := by
  simp [tsumBits, List.range_succ_eq_map, List.flatMap_map, tsumWidth_eq, Nat.sub_sub]

/-- XF.TSUME over items within the budget writes their fields and goes on with the budget left. -/
theorem tsumEncFrom_append {r : Nat} {ns : List Nat} {b : Bits} (l : List Int) (k : Nat) (hsum : ns.sum ≤ r)
    (hb : b.length + (tsumBits r ns).length ≤ Config.bitCap) :
    tsumEncFrom r (ns.map Int.ofNat ++ l) b k
      = tsumEncFrom (r - ns.sum) l (b ++ tsumBits r ns) (k + (tsumBits r ns).length) := by
  induction ns generalizing r b k with
  | nil => simp [tsumBits]
  | cons n ns ih =>
    rw [List.sum_cons] at hsum
    rw [tsumBits_cons, List.length_append, binMsb_length] at hb
    have hw : bitsWrite b (tsumWidth r) (binMsb (tsumWidth r) n) = .ok (b ++ binMsb (tsumWidth r) n) :=
      bitsWrite_ok _ _ _ (by omega)
    have hn : (0 : Int) ≤ Int.ofNat n ∧ Int.ofNat n ≤ r := ⟨Int.natCast_nonneg n, Int.ofNat_le.mpr (by omega)⟩
    have hnat : (Int.ofNat n).toNat = n := rfl
    rw [List.map_cons, List.cons_append, tsumEncFrom, bind_of_ok (require_pos hn _), hnat, bind_of_ok hw,
      ih _ (by omega) (by rw [List.length_append, binMsb_length]; omega), tsumBits_cons, List.sum_cons, Nat.sub_sub,
      List.append_assoc, List.length_append, binMsb_length, Nat.add_assoc]

/-- XF.TSUMD over the fields of items within the budget pushes them and goes on with the budget left. -/
theorem tsumDecFrom_append {total p : Nat} {ns : List Nat} {q : List Int} (c : Nat) (b : Bits)
    (hsum : p + ns.sum ≤ total) (hlen : q.length + ns.length ≤ Config.seqCap)
    (hns : ∀ v ∈ ns.map Int.ofNat, inElemRange v) :
    tsumDecFrom total (ns.length + c) p (tsumBits (total - p) ns ++ b) q
      = tsumDecFrom total c (p + ns.sum) b (q ++ ns.map Int.ofNat) := by
  induction ns generalizing p q with
  | nil => simp [tsumBits]
  | cons n ns ih =>
    rw [List.sum_cons] at hsum
    rw [List.length_cons] at hlen
    obtain ⟨hn, hns⟩ := List.forall_mem_cons.mp hns
    have hread : readInto (tsumWidth (total - p)) 0 (tsumBits (total - p) (n :: ns) ++ b)
        = .ok (n, tsumBits (total - (p + n)) ns ++ b) := by
      rw [tsumBits_cons, List.append_assoc, readInto_binMsb, Nat.mod_eq_of_lt (lt_two_pow_tsumWidth (by omega)),
        Nat.sub_sub, Nat.zero_mul, Nat.zero_add]
    have hpush : seqPush q n = .ok (q ++ [Int.ofNat n]) := by
      obtain ⟨-, -, h⟩ | ⟨h, -⟩ | ⟨-, h, -⟩ := seqPush_cases q n
      · exact h
      · omega
      · exact absurd hn h
    rw [List.length_cons, Nat.add_right_comm, tsumDecFrom, hread]
    dsimp only
    rw [bind_of_ok (require_pos (by omega) _), bind_of_ok hpush, ih (by omega) (by simp; omega) hns]
    simp [Nat.add_assoc]

/-- A field cut short has no value. -/
theorem readInto_short {w : Nat} {b : Bits} (v : Nat) (h : b.length < w) : readInto w v b = .error .cut := by
  induction w generalizing v b with
  | zero => omega
  | succ w ih =>
    cases b with
    | nil => rfl
    | cons c b => exact ih _ (by simpa using h)

theorem exec_xfTsume_refused {s : State} {ns : List Nat} {e : Int} {post : List Int} (hsum : ns.sum ≤ s.arg0.toNat)
    (hs : s.sin = ns.map Int.ofNat ++ e :: post)
    (hb : s.bout.length + (tsumBits s.arg0.toNat ns).length ≤ Config.bitCap)
    (he : e < 0 ∨ ((s.arg0.toNat - ns.sum : Nat) : Int) < e) :
    exec .xfTsume s = .next (raiseError (domainErr 0x32#8 (.val e)) s) := by
  refine endCommand_of_error (bind_of_error ?_ _)
  rw [hs]
  exact (tsumEncFrom_append _ 0 hsum hb).trans (bind_of_error (require_neg (by omega) _) _)

section
variable {s : State} {ns : List Nat} {t : Bits} (hsum : ns.sum ≤ s.arg0.toNat) (hc : ns.length < s.arg1.toNat)
  (hp : Pushable s (ns.map Int.ofNat)) (hs : s.bin = tsumBits s.arg0.toNat ns ++ t)
include hsum hc hp hs

/-- XF.TSUMD after the items that are well coded: one more item is to come, read from the bits left. -/
theorem tsumDecFrom_reach : ∃ c, tsumDecFrom (zext s.arg0) (zext s.arg1) 0 s.bin s.sout
    = tsumDecFrom s.arg0.toNat (c + 1) ns.sum t (s.sout ++ ns.map Int.ofNat) := by
  obtain ⟨c, hc⟩ := Nat.exists_eq_add_of_lt hc
  have h := tsumDecFrom_append (total := s.arg0.toNat) (p := 0) (c + 1) t (by omega) (by simpa using hp.1) hp.2
  rw [Nat.sub_zero, Nat.zero_add, ← hs, ← Nat.add_assoc, ← hc] at h
  exact ⟨c, h⟩

theorem exec_xfTsumd_cut (ht : t.length < tsumWidth (s.arg0.toNat - ns.sum)) :
    exec .xfTsumd s = .next (raiseError (parseErr 0x10#8 (.val ns.sum)) s) := by
  obtain ⟨c, h⟩ := tsumDecFrom_reach hsum hc hp hs
  refine endCommand_of_error (bind_of_error (h.trans ?_) _)
  rw [tsumDecFrom, readInto_short 0 ht]

theorem exec_xfTsumd_beyond {m : Nat} {rest : Bits}
    (ht : t = binMsb (tsumWidth (s.arg0.toNat - ns.sum)) m ++ rest) (hm : m < 2 ^ tsumWidth (s.arg0.toNat - ns.sum))
    (hbig : s.arg0.toNat - ns.sum < m) :
    exec .xfTsumd s = .next (raiseError (parseErr 0x14#8 (.val m)) s) := by
  obtain ⟨c, h⟩ := tsumDecFrom_reach hsum hc hp hs
  refine endCommand_of_error (bind_of_error (h.trans ?_) _)
  rw [tsumDecFrom, ht, readInto_binMsb, Nat.mod_eq_of_lt hm, Nat.zero_mul, Nat.zero_add]
  exact bind_of_error (require_neg (by omega) _) _

end

/-! Palette headings. -/

/-- A step that is not positive, after steps that are, is named by its place (42_transforms.md R197). -/
theorem palSteps_refused {pre post : List Int} {d : Int} (t : Nat) (prev : Int) (hpre : ∀ x ∈ pre, 0 < x) (hd : d ≤ 0) :
    palSteps t prev (pre ++ d :: post) = .error (parseErr 0x15#8 (.val (t + pre.length : Nat))) := by
  induction pre generalizing t prev with
  | nil => exact bind_of_error (require_neg (by omega) _) _
  | cons x pre ih =>
    obtain ⟨hx, hpre⟩ := List.forall_mem_cons.mp hpre
    refine (bind_of_ok (require_pos hx _) _).trans ((bind_of_error (ih (t + 1) (prev + x) hpre) _).trans ?_)
    rw [List.length_cons, Nat.add_right_comm, Nat.add_assoc]

/-- The steps of an ascending list lead back to it. -/
theorem palSteps_differences {prev : Int} {p : List Int} (t : Nat) (hp : (prev :: p).Pairwise (· < ·)) :
    palSteps t prev (List.zipWith (· - ·) p (prev :: p)) = .ok p := by
  induction p generalizing prev t with
  | nil => rfl
  | cons a p ih =>
    obtain ⟨hprev, hp⟩ := List.pairwise_cons.mp hp
    have ha : 0 < a - prev := by
      have := hprev a (by simp)
      omega
    rw [List.zipWith_cons_cons, palSteps, bind_of_ok (require_pos ha _), add_sub_cancel,
      bind_of_ok (ih (t + 1) hp)]
    rfl

/-- The heading of an ascending palette is read back to it. -/
theorem palRead_heading {p rest : List Int} (hp : p.Pairwise (· < ·)) :
    palRead p.length ((p.length : Int) :: (List.zipWith (· - ·) p (0 :: p) ++ rest)) = .ok p := by
  cases p with
  | nil => rfl
  | cons a p =>
    have htake : (List.zipWith (· - ·) p (a :: p) ++ rest).take p.length = List.zipWith (· - ·) p (a :: p) :=
      List.take_left' (by simp)
    simp only [palRead, List.length_cons, Nat.add_one_ne_zero, if_false, List.zipWith_cons_cons, List.cons_append,
      List.getD_cons_succ, List.getD_cons_zero, sub_zero, List.drop_succ_cons, List.drop_zero, Nat.add_sub_cancel, htake]
    rw [bind_of_ok (palSteps_differences 1 hp)]
    rfl

/-- XF.PALD of a sequence with a first element fails as one of its three parts does: the check of K, the reading of the
palette, the indices. -/
theorem exec_xfPald_refused {s : State} {k : Int} {es : List Int} {e : Err} (hs : s.sin = k :: es)
    (h : (do
      require (0 ≤ k ∧ 1 + k ≤ (k :: es).length) (parseErr 0x15#8 (.val 0))
      let p ← palRead k.toNat (k :: es)
      ((k :: es).drop (1 + k.toNat)).foldlM (palPush p k) s.sout) = .error e) :
    exec .xfPald s = .next (raiseError e s) := by
  refine xfSeq_refused ?_
  rw [hs]
  exact h

theorem exec_xfPald_empty {s : State} (hs : s.sin = []) :
    exec .xfPald s = .next (raiseError (parseErr 0x15#8 (.val 0)) s) := by
  refine xfSeq_refused ?_
  rw [hs]

theorem exec_xfPald_badCount {s : State} {k : Int} {es : List Int} (hs : s.sin = k :: es)
    (hk : k < 0 ∨ (es.length : Int) < k) : exec .xfPald s = .next (raiseError (parseErr 0x15#8 (.val 0)) s) :=
  exec_xfPald_refused hs (bind_of_error (require_neg (by rw [List.length_cons]; omega) _) _)

theorem exec_xfPald_badStep {s : State} {k : Nat} {p d : Int} {pre post : List Int}
    (hs : s.sin = (k : Int) :: p :: (pre ++ d :: post)) (hpre : ∀ x ∈ pre, 0 < x) (hd : d ≤ 0)
    (hk : pre.length + 1 < k) (hlen : k ≤ pre.length + post.length + 2) :
    exec .xfPald s = .next (raiseError (parseErr 0x15#8 (.val (pre.length + 1 : Nat))) s) := by
  have htake : (pre ++ d :: post).take (k - 1) = pre ++ d :: post.take (k - 1 - pre.length - 1) := by
    obtain ⟨j, hj⟩ : ∃ j, k - 1 = pre.length + (j + 1) := ⟨k - 1 - pre.length - 1, by omega⟩
    rw [hj, List.take_length_add_append, List.take_succ_cons]
    congr 4
    omega
  have hread : palRead k ((k : Int) :: p :: (pre ++ d :: post))
      = .error (parseErr 0x15#8 (.val (pre.length + 1 : Nat))) := by
    simp only [palRead, if_neg (show k ≠ 0 by omega), List.getD_cons_succ, List.getD_cons_zero, List.drop_succ_cons,
      List.drop_zero, htake]
    rw [bind_of_error (palSteps_refused 1 p hpre hd), Nat.add_comm]
  refine exec_xfPald_refused hs ((bind_of_ok (require_pos ?_ _) _).trans (bind_of_error hread _))
  simp only [List.length_cons, List.length_append]
  omega

theorem exec_xfPald_badIndex {s : State} {p pre post : List Int} {e : Int} (hp : p.Pairwise (· < ·))
    (hs : s.sin = (p.length : Int) :: (List.zipWith (· - ·) p (0 :: p) ++ (pre ++ e :: post)))
    (hpre : ∀ x ∈ pre, 0 ≤ x ∧ x < p.length) (he : e < 0 ∨ (p.length : Int) ≤ e)
    (hpush : Pushable s (pre.map (fun x => p.getD x.toNat 0))) :
    exec .xfPald s = .next (raiseError (parseErr 0x15#8 (.val e)) s) := by
  have hdrop : ((p.length : Int) :: (List.zipWith (· - ·) p (0 :: p) ++ (pre ++ e :: post))).drop
      (1 + (p.length : Int).toNat) = pre ++ e :: post := by
    rw [Int.toNat_natCast, Nat.add_comm, List.drop_succ_cons]
    exact List.drop_left' (by simp)
  refine exec_xfPald_refused hs ((bind_of_ok (require_pos ?_ _) _).trans ((bind_of_ok (palRead_heading hp) _).trans ?_))
  · simp only [List.length_cons, List.length_append, List.length_zipWith]
    omega
  · rw [hdrop]
    exact checkedPushes_refused (p := fun x => 0 ≤ x ∧ x < p.length) (err := fun x => parseErr 0x15#8 (.val x)) hpre
      (by omega) hpush

/-- Settles O37: the elements before the failing one pass its command's checks, and the failing one is named. -/
theorem transformRefusals : Obligations.TransformRefusals := by
  refine ⟨fun s => ⟨focus_refused, fun pre post e hs hpre he => ?_, fun h pre post e hs hpre he => ?_,
    fun hne hfull => soutFull_refused hne hfull, fun pre post e hs hp hroom he => exec_xfZze_refused hs hp hroom he⟩,
    fun s ns hsum => ⟨fun e post hs hb he => exec_xfTsume_refused hsum hs hb he, fun hc hp => ?_⟩,
    fun s => ⟨exec_xfPald_empty, fun k es hs hk => exec_xfPald_badCount hs hk,
      fun k p d pre post hs hpre hd hk hlen => exec_xfPald_badStep hs hpre hd hk hlen,
      fun p pre post e hp hs hpre he hpush => exec_xfPald_badIndex hp hs hpre he hpush⟩⟩
  · simp only [← focusedZigZag_eq, ← focusedUnZigZag_eq]
    exact ⟨exec_xfZzd_refused hs hpre he, xfFocused_refused hs hpre he, xfFocused_refused hs hpre he,
      ruler_refused rulerEnc hs hpre he, ruler_refused rulerDec hs hpre he⟩
  · exact ⟨exec_xfFlrd_refused hs hpre he, exec_xfMedd_refused hs hpre he⟩
  · simp only [← tsumWidth_eq]
    exact ⟨fun cut hs ht => exec_xfTsumd_cut hsum hc hp hs ht,
      fun m rest hs hm hbig => exec_xfTsumd_beyond hsum hc hp (by rw [hs, List.append_assoc]) rfl hm hbig⟩

end Sys2Proof.Machine
end

section
/-! The decoder against the opcode table, and the encoder as its inverse (30_encoding.md R91, R93..R96). -/

namespace Sys2Proof.Machine

/-! The fields of a command word. -/

theorem opcField_eq (w : Word) : opcField w = w.toNat % 256 := by
  simp [opcField, BitVec.extractLsb'_toNat]

theorem cidField_toNat (w : Word) : (cidField w).toNat = w.toNat / 256 % 256 := by
  simp [cidField, BitVec.extractLsb'_toNat, Nat.shiftRight_eq_div_pow]

theorem domField_eq (w : Word) : domField w = w.toNat / 65536 % 4 := by
  simp [domField, BitVec.extractLsb'_toNat, Nat.shiftRight_eq_div_pow]

theorem rsvField_eq (w : Word) : rsvField w = w.toNat / 2 ^ 18 := by
  have hw := w.isLt
  simp only [rsvField, BitVec.extractLsb'_toNat, Nat.shiftRight_eq_div_pow]
  omega

/-- A word with no reserved bit set is made of its three other fields. -/
theorem commandWord_fields {w : Word} (h : rsvField w = 0) :
    commandWord (opcField w) (cidField w).toNat (domField w) = w := by
  have hw := w.isLt
  rw [rsvField_eq] at h
  apply BitVec.eq_of_toNat_eq
  rw [commandWord, BitVec.toNat_ofNat, opcField_eq, cidField_toNat, domField_eq]
  omega

/-! Codec IDs and DOM fields. -/

theorem codecOfId_some {n : Nat} {c : Codec} (h : codecOfId n = some c) : n = c.id := by
  unfold codecOfId at h
  split at h <;> cases h <;> rfl

theorem codecOfId_cases (n : Nat) : 13 < n ∧ codecOfId n = none ∨ n ≤ 13 ∧ ∃ c, codecOfId n = some c := by
  by_cases hn : n ≤ 13
  · refine .inr ⟨hn, ?_⟩
    interval_cases n <;> exact ⟨_, rfl⟩
  · refine .inl ⟨by omega, ?_⟩
    cases hc : codecOfId n with
    | none => rfl
    | some c =>
      have hid := codecOfId_some hc
      cases c <;> simp only [Codec.id] at hid <;> omega

theorem domOfField_some {n : Nat} {d : Dom} (h : domOfField n = some d) : n = d.field := by
  unfold domOfField at h
  split at h <;> cases h <;> rfl

theorem domOfField_cases {n : Nat} (hn : n < 4) :
    n = 3 ∧ domOfField n = none ∨ n ≠ 3 ∧ ∃ d, domOfField n = some d := by
  obtain rfl | hne := eq_or_ne n 3
  · exact .inl ⟨rfl, rfl⟩
  · refine .inr ⟨hne, ?_⟩
    obtain rfl | rfl | rfl : n = 0 ∨ n = 1 ∨ n = 2 := by omega
    · exact ⟨.native, rfl⟩
    · exact ⟨.unsigned, rfl⟩
    · exact ⟨.signed, rfl⟩

/-! The words of an operation code. -/

/-- The words that a row of the opcode map stands for are the words the encoder gives to its instructions. -/
def ShapeEncodes (opc : Nat) : OpShape → Prop
  | .plain i => encode i = commandWord opc 0 0
  | .mask mk => ∀ m, encode (mk m) = commandWord opc m.toNat 0
  | .codecDom mk => ∀ c d, encode (mk c d) = commandWord opc c.id d.field
  | .codec mk => ∀ c, encode (mk c) = commandWord opc c.id 0

theorem opShape_encodes {opc : Nat} {sh : OpShape} (h : opShape opc = some sh) : ShapeEncodes opc sh := by
  unfold opShape at h
  split at h <;> cases h
  case h_3 => exact fun _ => rfl
  case h_5 | h_6 | h_7 | h_8 => exact fun c _ => by cases c <;> rfl
  case h_15 | h_16 => exact fun c => by cases c <;> rfl
  all_goals rfl

/-! The checks of the decoder. -/

/-- The fields a row of the opcode map uses: CID as a codec ID, CID at all, DOM. -/
def shapeUses : OpShape → Bool × Bool × Bool
  | .plain _ => (false, false, false)
  | .mask _ => (false, true, false)
  | .codecDom _ => (true, true, true)
  | .codec _ => (true, true, false)

/-- The fields an operation code uses by the lists of R95, and none for a reserved one (30_encoding.md R95, R96). -/
def opcUses (opc : Nat) : Option (Bool × Bool × Bool) :=
  if reservedOpc opc then none else some (usesCodec opc, usesCid opc, usesDom opc)

theorem opShape_uses : ∀ opc : BitVec 8, (opShape opc.toNat).map shapeUses = opcUses opc.toNat := by decide

/-- The opcode map has a row for exactly the codes that are not reserved, and the row uses the fields its code does. -/
theorem opShape_opcField (w : Word) :
    reservedOpc (opcField w) = true ∧ opShape (opcField w) = none
      ∨ reservedOpc (opcField w) = false ∧ ∃ sh, opShape (opcField w) = some sh
        ∧ shapeUses sh = (usesCodec (opcField w), usesCid (opcField w), usesDom (opcField w)) := by
  have huses : (opShape (opcField w)).map shapeUses = opcUses (opcField w) := opShape_uses _
  unfold opcUses at huses
  split at huses
  · exact .inl ⟨‹_›, Option.map_eq_none_iff.mp huses⟩
  · exact .inr ⟨Bool.eq_false_iff.mpr ‹_›, Option.map_eq_some_iff.mp huses⟩

/-- Checks 3 and 4 of 30_encoding.md R91 in their order, for a row that uses its fields as told; an instruction that
passes them holds all that the fields say. -/
theorem decodeShape_checks {opc dom : Nat} {sh : OpShape} {useCodec useCid useDom : Bool} (cid : BitVec 8)
    (hdom : dom < 4) (hsh : ShapeEncodes opc sh) (huses : shapeUses sh = (useCodec, useCid, useDom)) :
    if (!useCid && cid.toNat != 0) || (!useDom && dom != 0) then decodeShape sh cid dom = .error .unusedField
    else if useCodec && decide (13 < cid.toNat) then decodeShape sh cid dom = .error .reservedCodec
    else if useDom && dom == 3 then decodeShape sh cid dom = .error .reservedDomain
    else ∃ i, decodeShape sh cid dom = .ok i ∧ encode i = commandWord opc cid.toNat dom := by
  cases sh with
  | plain j =>
    cases huses
    by_cases hcid : cid.toNat = 0 <;> by_cases hd : dom = 0 <;> simp [decodeShape, hcid, hd]
    exact hsh
  | mask mk =>
    cases huses
    by_cases hd : dom = 0 <;> simp [decodeShape, hd]
    exact hsh cid
  | codecDom mk =>
    cases huses
    obtain ⟨hcid, hc⟩ | ⟨hcid, c, hc⟩ := codecOfId_cases cid.toNat
    · simp [decodeShape, hc, hcid]
    · obtain ⟨rfl, hd⟩ | ⟨hd3, d, hd⟩ := domOfField_cases hdom
      · simp [decodeShape, hc, hd, Nat.not_lt.mpr hcid]
      · have hword : encode (mk c d) = commandWord opc cid.toNat dom := by
          rw [codecOfId_some hc, domOfField_some hd]
          exact hsh c d
        simp [decodeShape, hc, hd, hd3, Nat.not_lt.mpr hcid, hword]
  | codec mk =>
    cases huses
    by_cases hd : dom = 0
    · obtain ⟨hcid, hc⟩ | ⟨hcid, c, hc⟩ := codecOfId_cases cid.toNat
      · simp [decodeShape, hd, hc, hcid]
      · have hword : encode (mk c) = commandWord opc cid.toNat 0 := by
          rw [codecOfId_some hc]
          exact hsh c
        simp [decodeShape, hd, hc, Nat.not_lt.mpr hcid, hword]
    · simp [decodeShape, hd]

/-- All the checks of 30_encoding.md R91 in their order; a word that passes them is the word of its instruction. -/
theorem decode_checks (w : Word) :
    if w.toNat / 2 ^ 18 ≠ 0 then decode w = .error .reservedBits
    else if reservedOpc (w.toNat % 256) then decode w = .error .reservedOpcode
    else if (!usesCid (w.toNat % 256) && w.toNat / 256 % 256 != 0)
        || (!usesDom (w.toNat % 256) && w.toNat / 65536 % 4 != 0) then decode w = .error .unusedField
    else if usesCodec (w.toNat % 256) && decide (13 < w.toNat / 256 % 256) then decode w = .error .reservedCodec
    else if usesDom (w.toNat % 256) && w.toNat / 65536 % 4 == 3 then decode w = .error .reservedDomain
    else ∃ i, decode w = .ok i ∧ encode i = w := by
  unfold decode
  rw [← opcField_eq, ← cidField_toNat, ← domField_eq, ← rsvField_eq]
  by_cases hrsv : rsvField w = 0
  · obtain ⟨hres, hsh⟩ | ⟨hres, sh, hsh, huses⟩ := opShape_opcField w
    · simp [hrsv, hres, hsh]
    · have hdom : domField w < 4 := domField_eq w ▸ Nat.mod_lt _ (by decide)
      have hchecks := decodeShape_checks (cidField w) hdom (opShape_encodes hsh) huses
      rw [commandWord_fields hrsv] at hchecks
      simpa [hrsv, hres, hsh] using hchecks
  · simp [hrsv]

theorem encode_of_decode {w : Word} {i : Instr} (h : decode w = .ok i) : encode i = w := by
  have hchecks := decode_checks w
  simp only [h, reduceCtorEq, Except.ok.injEq, exists_eq_left'] at hchecks
  split_ifs at hchecks
  exact hchecks

/-- Settles O1: the encoder's word reads back field by field, and a word that passes the decoder's checks is the word of
its instruction. -/
theorem decodeEncodeAgree : Obligations.DecodeEncodeAgree :=
  ⟨fun i _ => decode_encode i, fun _ _ => encode_of_decode⟩

/-- Settles O2: each word is evaluated. -/
theorem sampleWordsDecode : Obligations.SampleWordsDecode := by
  unfold Obligations.SampleWordsDecode
  decide

/-! The checks seen at the step. -/

/-- The sequencer reports what the decoder refuses, with the command word as info. -/
theorem runLatched_of_refused {s : State} {e : DecodeError} (h : decode s.cur = .error e) :
    runLatched s = .next (raiseError (illegalErr e.sub (.val s.cur.toNat)) s) := by
  simp [runLatched, h, zext]

theorem step_of_quiet {s : State} (hb : s.seq = .busy) (hq : Quiet s) : step s = runLatched s := by
  obtain ⟨a, rest, ht, -⟩ | ⟨-, hi, -⟩ | ⟨-, -, hs⟩ := step_cases s
  · cases (hostTurn_of_quiet hb hq).symm.trans ht
  · cases hb.symm.trans hi
  · exact hs

/-- Settles O3: the step of a quiet busy block is the decoder's chain of checks with each refusal reported. -/
theorem illegalWordReported : Obligations.IllegalWordReported := by
  intro s hb hq
  have hchecks := decode_checks s.cur
  have hrefused {e : DecodeError} (h : decode s.cur = .error e) :
      step s = .next (raiseError (illegalErr e.sub (.val s.cur.toNat)) s) :=
    (step_of_quiet hb hq).trans (runLatched_of_refused h)
  dsimp only
  split_ifs at hchecks ⊢
  · exact hrefused hchecks
  · exact hrefused hchecks
  · exact hrefused hchecks
  · exact hrefused hchecks
  · exact hrefused hchecks
  · obtain ⟨i, hi, -⟩ := hchecks
    exact ⟨i, hi, (step_of_quiet hb hq).trans (runLatched_of_decode hi)⟩

end Sys2Proof.Machine
end

section
/-! An encoding block always completes: no part of the run processor can fail on an ACTIVE block in encode that satisfies
the block's invariant, and the runs come to the final one (45_cer.md R285..R300). -/

namespace Sys2Proof.Machine

/-! What an encode keeps and what becomes less. -/

/-- What the work on an encoding block leaves as it is, the samples and every stream among it, and that neither the
unresolved columns nor the eliminations still possible become more. -/
structure Encodes (s t : State) : Prop where
  frame : { s with spl := t.spl, cat := t.cat, cer := t.cer } = t
  cer : { s.cer with
    phase := t.cer.phase, press := t.cer.press, rank := t.cer.rank, s := t.cer.s, runIndex := t.cer.runIndex,
    elims := t.cer.elims, hits := t.cer.hits, absorbs := t.cer.absorbs } = t.cer
  unresolved : unresolvedCount t.cat ≤ unresolvedCount s.cat
  remaining : remainingElims t.cat ≤ remainingElims s.cat

theorem Encodes.of_same_cat {s t : State} (hframe : { s with spl := t.spl, cer := t.cer } = t)
    (hcer : { s.cer with
      phase := t.cer.phase, press := t.cer.press, rank := t.cer.rank, s := t.cer.s, runIndex := t.cer.runIndex,
      elims := t.cer.elims, hits := t.cer.hits, absorbs := t.cer.absorbs } = t.cer) : Encodes s t := by
  have hcat : t.cat = s.cat := by rw [← hframe]
  refine ⟨?_, hcer, le_of_eq (congrArg _ hcat), le_of_eq (congrArg _ hcat)⟩
  rw [hcat]
  exact hframe

theorem Encodes.refl (s : State) : Encodes s s := .of_same_cat rfl rfl

theorem Encodes.trans {s t u : State} (h : Encodes s t) (k : Encodes t u) : Encodes s u := by
  refine ⟨?_, ?_, k.unresolved.trans h.unresolved, k.remaining.trans h.remaining⟩
  · rw [← k.frame, ← h.frame]
  · rw [← k.cer, ← h.cer]

theorem Encodes.mode {s t : State} (h : Encodes s t) : t.cer.mode = s.cer.mode := by rw [← h.cer]

theorem Encodes.plain {s t : State} (h : Encodes s t) : t.cer.plain = s.cer.plain := by rw [← h.cer]

theorem popped_encodes (rest : List RankEntry) (s : State) : Encodes s (popped rest s) := .of_same_cat rfl rfl

theorem tookPress_encodes (v : Nat) (s : State) : Encodes s (tookPress v s) := .of_same_cat rfl rfl

theorem dropCell_encodes (x : Nat) (y : Int) (s : State) : Encodes s (dropCell x y s) := .of_same_cat rfl rfl

theorem countRun_encodes (s : State) : Encodes s (countRun s) := .of_same_cat rfl rfl

theorem pushFrontier_encodes (s : State) (x : Nat) (y : Int) : Encodes s (pushFrontier s x y) := .of_same_cat rfl rfl

theorem pushCells_encodes (cells : List (Nat × Int)) (s : State) : Encodes s (pushCells cells s) := by
  induction cells generalizing s with
  | nil => exact .refl s
  | cons c cells ih => exact (pushFrontier_encodes s c.1 c.2).trans (ih _)

/-! Eliminations still possible. -/

theorem elimCount_nonneg {n : Nat} {c : Column} (h : ColumnOk n c) : 0 ≤ elimCount c := by
  have hcount := unknownCount_of_ok h
  obtain ⟨-, hgap, -⟩ := h
  unfold elimCount
  split <;> omega

/-- The eliminations still possible are counted without a clamp at 0: every column has an UNKNOWN cell. -/
theorem remainingElims_nonneg {cat : Catalogue} (h : CatOk cat) : 0 ≤ remainingElims cat := by
  rw [remainingElims_eq_sum]
  refine List.sum_nonneg fun e he => ?_
  obtain ⟨c, hc, rfl⟩ := List.mem_map.mp he
  exact elimCount_nonneg (h.2.2 c hc)

/-! Emitting a press value. -/

theorem Shape.geometry {s : State} (h : Shape s) : GeometryOk s.cer.n s.cer.v := by
  rw [← h.catN, ← h.catV]
  exact h.cat.2.1 h.catValid

/-- The sum that CheckSum sees is the number of eliminations, which the columns bound (45_cer.md R293, R295). -/
theorem InRun.emitPress_eq {s : State} (h : InRun none s) : emitPress s = .ok (Machine.tookPress s.cer.s s) := by
  obtain ⟨-, -, hv, -⟩ := h.shape.geometry
  have hleft := remainingElims_nonneg h.shape.cat
  have hbound := h.columns.bound
  have hsum : ((s.cer.press ++ [s.cer.s]).sum : Int) = s.cer.elims := by
    rw [List.sum_append, List.sum_singleton]
    exact_mod_cast h.press.sum
  have hv : (1 : Int) ≤ s.cer.v := by omega
  refine if_neg ?_
  show ¬((s.cer.n : Int) * ((s.cer.v : Int) - 1) < ((s.cer.press ++ [s.cer.s]).sum : Nat))
  push_cast at hsum ⊢
  nlinarith

/-! Resolving a column to its sample. -/

theorem setBone_of_null {spl : Spline} {x : Nat} {y : Int} (hx : x < spl.n) (hy : y < spl.v)
    (hb : boneAt spl.bones x = none) : setBone spl x y = .ok (installBone spl x y) := by
  refine (bind_of_ok (require_pos hx _) _).trans ((bind_of_ok (require_pos hy _) _).trans ?_)
  rw [hb]
  rfl

theorem eliminateColumn_of_unknown {cat : Catalogue} {x : Nat} {y : Int} (hr : (columnAt cat x).rsv = false)
    (hy : isUnknown (columnAt cat x) y = true) :
    eliminateColumn cat x y = .ok (setColumn cat x (resolvedColumn y)) :=
  (bind_of_ok (require_pos hr _) _).trans (bind_of_ok (require_pos (by simpa [isUnknown] using hy) _) _)

/-- The sample of an unresolved column in encode is an UNKNOWN cell of it, and the column has no bone. -/
theorem Shape.unresolvedSample {s : State} {x : Nat} (h : Shape s) (hm : s.cer.mode = .encode)
    (hr : (columnAt s.cat x).rsv = false) :
    boneAt s.spl.bones x = none ∧ ∃ y, plainAt s.cer.plain x = some y ∧ isUnknown (columnAt s.cat x) y = true := by
  have hx : x < s.cer.n := by
    rw [← h.catN, ← h.cat.1]
    exact lt_length_of_unresolved hr
  have hsam := ((samplesOk_iff s).mp h.samples).2 x hx
  simp only [SampleOk, hr, Bool.false_eq_true, if_false] at hsam
  obtain ⟨hbone, -, henc⟩ := hsam
  exact ⟨hbone, henc hm⟩

/-- A sample is written where it already stands. -/
theorem set_plainAt {plain : List (Option Int)} {x : Nat} {y : Int} (h : plainAt plain x = some y) :
    plain.set x (some y) = plain := by
  have hx : plain[x]? = some (some y) := by
    unfold plainAt at h
    rw [List.getD_eq_getElem?_getD] at h
    cases hp : plain[x]? with
    | none => simp [hp] at h
    | some p => simpa [hp] using h
  obtain ⟨hlt, hget⟩ := List.getElem?_eq_some_iff.mp hx
  rw [← hget, List.set_getElem_self]

/-- A column is resolved to its sample without error, and the samples stay. -/
theorem Shape.resolveCell_encodes {s : State} {x : Nat} {y : Int} (h : Shape s) (hm : s.cer.mode = .encode)
    (hr : (columnAt s.cat x).rsv = false) (hy : plainAt s.cer.plain x = some y) :
    ∃ t, resolveCell x y s = .ok t ∧ Encodes s t ∧ unresolvedCount t.cat < unresolvedCount s.cat := by
  obtain ⟨hbone, y', hy', hunk⟩ := h.unresolvedSample hm hr
  obtain rfl : y' = y := Option.some.inj (hy'.symm.trans hy)
  have hx := lt_length_of_unresolved hr
  have hcol := columnAt_ok h.cat hx
  have hcount := unknownCount_of_ok hcol
  obtain ⟨hopen, helim⟩ := counts_resolved hx hr y'
  have hlt : y' < s.spl.v := by
    obtain ⟨-, -, hhi, -⟩ := hcol
    simp only [isUnknown, decide_eq_true_eq] at hunk
    rw [h.splV, ← h.catV]
    omega
  have hset := setBone_of_null (by rw [h.splN, ← h.catN, ← h.cat.1]; exact hx) hlt hbone
  have hres : resolveCell x y' s = .ok { s with
      spl := installBone s.spl x y', cat := setColumn s.cat x (resolvedColumn y') } := by
    simp only [resolveCell, hset, eliminateColumn_of_unknown hr hunk, set_plainAt hy]
  refine ⟨_, hres, ⟨rfl, rfl, ?_, ?_⟩, ?_⟩
  · dsimp only
    omega
  · obtain ⟨-, hgap, -⟩ := hcol
    dsimp only
    omega
  · dsimp only
    omega

/-- A hit on the sample of its column succeeds. -/
theorem PoppedInv.hitCell_encodes {p : Option Nat} {e : RankEntry} {s : State} (h : PoppedInv p e s)
    (hm : s.cer.mode = .encode) (hy : plainAt s.cer.plain e.x = some e.y) :
    ∃ u, hitCell e.x e.y s = .ok u ∧ Encodes s u ∧ unresolvedCount u.cat < unresolvedCount s.cat := by
  obtain ⟨hother, -⟩ := frontier_column h.frontier h.two h.inRun.shape.cat 0
  have hdrop := dropCell_encodes e.x (otherFrontier (columnAt s.cat e.x) e.y) s
  have hshape : Shape (dropCell e.x (otherFrontier (columnAt s.cat e.x) e.y) s) :=
    h.inRun.shape.of_same (.refl _) rfl ⟨rfl, rfl, rfl, rfl, rfl⟩
  obtain ⟨t, ht, hkeep, hless⟩ := hshape.resolveCell_encodes hm h.frontier.1.2 hy
  refine ⟨{ t with cer := { t.cer with hits := t.cer.hits + 1 } }, ?_, ?_, hless⟩
  · simp only [hitCell, if_neg hother, ht]
  · exact (hdrop.trans hkeep).trans (.of_same_cat rfl rfl)

/-- A hit in encode ends its run (45_cer.md R285). -/
theorem PoppedInv.hitRun_encodes {e : RankEntry} {s : State} (h : PoppedInv none e s) (hm : s.cer.mode = .encode)
    (hy : plainAt s.cer.plain e.x = some e.y) :
    ∃ t, Machine.hitRun e s = .done t false ∧ Encodes s t ∧ unresolvedCount t.cat < unresolvedCount s.cat := by
  have hp : PoppedInv (some s.cer.s) e (tookPress s.cer.s s) :=
    ⟨h.inRun.tookPress s.cer.s s.bin s.sin, h.frontier, h.ranks, h.two⟩
  obtain ⟨u, hu, hkeep, hless⟩ := hp.hitCell_encodes hm hy
  have hrun : Machine.hitRun e s = .done (countRun u) false := by
    simp only [Machine.hitRun, hm, h.inRun.emitPress_eq, hu]
  exact ⟨_, hrun, ((tookPress_encodes _ s).trans hkeep).trans (countRun_encodes u), hless⟩

/-! An elimination that is no hit. -/

/-- A frontier cell of an unresolved column that is not critical can be eliminated. -/
theorem eliminate_completes {cat : Catalogue} {x : Nat} {y : Int} (hr : (columnAt cat x).rsv = false)
    (hcrit : unknownCount (columnAt cat x) ≠ 1) (hy : y = (columnAt cat x).lo + 1 ∨ y = (columnAt cat x).hi - 1) :
    ∃ cat' crit, eliminate cat x y = .ok (cat', crit) := by
  by_cases hlo : y = (columnAt cat x).lo + 1
  · exact ⟨_, _, (bind_of_ok (require_pos hr _) _).trans ((bind_of_ok (require_pos hcrit _) _).trans (if_pos hlo))⟩
  · exact ⟨_, _, (bind_of_ok (require_pos hr _) _).trans ((bind_of_ok (require_pos hcrit _) _).trans
      ((if_neg hlo).trans (if_pos (hy.resolve_left hlo))))⟩

/-- The popped cell can be eliminated, and one elimination fewer is possible then. -/
theorem PoppedInv.eliminate_encodes {p : Option Nat} {e : RankEntry} {s : State} (h : PoppedInv p e s) :
    ∃ cat crit, Machine.eliminate s.cat e.x e.y = .ok (cat, crit) ∧ Encodes s (countElim cat s)
      ∧ remainingElims cat + 1 = remainingElims s.cat := by
  obtain ⟨hu, hy⟩ := h.frontier
  have h2 := h.two e.x hu
  obtain ⟨cat, crit, hel⟩ := eliminate_completes hu.2 (by omega) hy
  obtain ⟨c', rfl, hx, hr, hr', -, -, hcount, -⟩ := eliminate_effect h.inRun.shape.cat hel
  have hopen := unresolvedCount_setColumn hx c'
  have helim := remainingElims_setColumn hx c'
  simp only [openCount, elimCount, hr, hr', Bool.false_eq_true, if_false] at hopen helim
  refine ⟨_, crit, hel, ⟨rfl, rfl, ?_, ?_⟩, by omega⟩
  · rw [countElim_cat]
    omega
  · rw [countElim_cat]
    omega

/-- The one UNKNOWN cell left of a critical column is its sample, so it is absorbed without error. -/
theorem ElimInv.absorbColumn_encodes {p : Option Nat} {x : Nat} {c : Column} {low : Bool} {s : State}
    (h : ElimInv p x c low s) (hm : s.cer.mode = .encode) (h1 : unknownCount c = 1) :
    ∃ u, absorbColumn x s = .ok u ∧ Encodes s u := by
  have hshape := h.inRun.shape
  have hr : (columnAt s.cat x).rsv = false := h.column ▸ h.unresolved
  obtain ⟨-, y, hy, hunk⟩ := hshape.unresolvedSample hm hr
  have hcount := unknownCount_of_ok (columnAt_ok hshape.cat h.inside)
  have hlast : y = (columnAt s.cat x).lo + 1 := by
    rw [← h.column] at h1
    simp only [isUnknown, decide_eq_true_eq] at hunk
    omega
  subst hlast
  have hdrop : Shape (dropCell x ((columnAt s.cat x).lo + 1) s) :=
    hshape.of_same (.refl _) rfl ⟨rfl, rfl, rfl, rfl, rfl⟩
  obtain ⟨t, ht, hkeep, -⟩ := hdrop.resolveCell_encodes hm hr hy
  refine ⟨{ t with cer := { t.cer with absorbs := t.cer.absorbs + 1 } }, by simp only [absorbColumn, ht], ?_⟩
  exact ((dropCell_encodes _ _ s).trans hkeep).trans (.of_same_cat rfl rfl)

theorem ElimInv.afterElim_encodes {p : Option Nat} {x : Nat} {c : Column} {crit low : Bool} {s : State}
    (h : ElimInv p x c low s) (hm : s.cer.mode = .encode) (hcrit : crit = (unknownCount c == 1)) :
    ∃ u, Machine.afterElim crit low x s = .ok u ∧ Encodes s u := by
  cases crit with
  | true => exact h.absorbColumn_encodes hm (by simpa using hcrit.symm)
  | false => exact ⟨_, rfl, pushFrontier_encodes _ _ _⟩

/-! Runs. -/

/-- What a run in encode comes to: it returns, DONE if it was the final run and otherwise with a column resolved. -/
def RunEnd.Encoded (s : State) (r : RunEnd) : Prop :=
  ∃ t final, r = .done t final ∧ Encodes s t
    ∧ if final then t.cer.phase = .done else unresolvedCount t.cat < unresolvedCount s.cat

/-- Work before a run is work of the run. -/
theorem RunEnd.Encoded.after {s u : State} {r : RunEnd} (h : Encodes s u) (hr : r.Encoded u) : r.Encoded s := by
  obtain ⟨t, final, rfl, hkeep, hend⟩ := hr
  refine ⟨t, final, rfl, h.trans hkeep, ?_⟩
  cases final with
  | true => exact hend
  | false => exact lt_of_lt_of_le hend h.unresolved

theorem LoopInv.finalRun_encoded {s : State} (h : LoopInv none s) (hm : s.cer.mode = .encode) :
    (Machine.finalRun none s).Encoded s := by
  have hrun : Machine.finalRun none s = .done (countRun { tookPress s.cer.s s with
      cer := { (tookPress s.cer.s s).cer with phase := .done } }) true := by
    simp only [Machine.finalRun, hm, h.inRun.emitPress_eq]
  exact ⟨_, true, hrun, .of_same_cat rfl rfl, rfl⟩

/-- A run in encode returns while its steps cover the eliminations still possible: each elimination uses up one of both
(45_cer.md R294). -/
theorem LoopInv.runLoop_encoded {left : Nat} {s : State} (h : LoopInv none s) (hm : s.cer.mode = .encode)
    (hleft : remainingElims s.cat < left) : (Machine.runLoop left none s).Encoded s := by
  induction left generalizing s with
  | zero =>
    have := remainingElims_nonneg h.inRun.shape.cat
    omega
  | succ left ih =>
    unfold Machine.runLoop
    cases hr : s.cer.rank with
    | nil => exact h.finalRun_encoded hm
    | cons e rest =>
      have hpop := h.popped hr
      have hdec : decideHit none e (Machine.popped rest s)
          = .ok (plainAt s.cer.plain e.x == some e.y, none, Machine.popped rest s) := by
        simp only [decideHit, popped_cer, hm]
      by_cases hhit : plainAt s.cer.plain e.x = some e.y
      · obtain ⟨t, ht, hkeep, hless⟩ := hpop.hitRun_encodes hm hhit
        rw [hhit, beq_self_eq_true] at hdec
        simp only [hdec, ht]
        exact .after (popped_encodes rest s) ⟨t, false, rfl, hkeep, hless⟩
      · obtain ⟨cat, crit, hel, hkeep, hfewer⟩ := hpop.eliminate_encodes
        obtain ⟨c, hc, hcrit⟩ := hpop.eliminate (fun _ => rfl) hel (fun _ => hhit)
        obtain ⟨u, hu, hkeep'⟩ := hc.afterElim_encodes hm hcrit
        have hall := ((popped_encodes rest s).trans hkeep).trans hkeep'
        have hrem : remainingElims u.cat + 1 ≤ remainingElims s.cat := by
          have := hkeep'.remaining
          simp only [countElim_cat, popped_cat] at this hfewer
          omega
        rw [beq_eq_false_iff_ne.mpr hhit] at hdec
        simp only [hdec, hel, hu]
        exact .after hall (ih (hc.afterElim hcrit hu) (hall.mode.trans hm) (by omega))

/-- A run of an ACTIVE block in encode. SafetyBound is above the eliminations that a block allows (45_cer.md R293, R294). -/
theorem run_encoded {s : State} (h : BlockInv s) (ha : s.cer.phase = .active) (hm : s.cer.mode = .encode) :
    (run s).Encoded s := by
  have hloop := loopInv_of_active h ha
  obtain ⟨hn, -, hv, -⟩ := hloop.inRun.shape.geometry
  have hbound := hloop.inRun.columns.bound
  refine .after (u := { s with cer := { s.cer with s := 0 } }) (.of_same_cat rfl rfl) (hloop.runLoop_encoded hm ?_)
  dsimp only at hn hv hbound ⊢
  unfold safetyBound
  push_cast
  nlinarith

/-- The runs of a block in encode come to the final one: every other one resolves a column (45_cer.md R300). -/
theorem runUntilFinal_encoded {left : Nat} {s : State} (h : BlockInv s) (ha : s.cer.phase = .active)
    (hm : s.cer.mode = .encode) (hleft : unresolvedCount s.cat ≤ left) :
    ∃ t, runUntilFinal left s = .done t true ∧ Encodes s t ∧ t.cer.phase = .done := by
  induction left generalizing s with
  | zero =>
    obtain ⟨t, final, hrun, hkeep, hend⟩ := run_encoded h ha hm
    cases final with
    | true => exact ⟨t, by simp only [runUntilFinal, hrun], hkeep, hend⟩
    | false => exact absurd (lt_of_lt_of_le hend hleft) (Nat.not_lt_zero _)
  | succ left ih =>
    obtain ⟨t, final, hrun, hkeep, hend⟩ := run_encoded h ha hm
    cases final with
    | true => exact ⟨t, by simp only [runUntilFinal, hrun], hkeep, hend⟩
    | false =>
      obtain ⟨ht, hact⟩ : RunEnd.Ok (.done t false) := hrun ▸ run_ok h ha
      have hless : unresolvedCount t.cat < unresolvedCount s.cat := hend
      obtain ⟨u, hu, hkeep', hdone⟩ := ih ht (hact rfl) (hkeep.mode.trans hm) (by omega)
      exact ⟨u, by simp only [runUntilFinal, hrun, hu], hkeep.trans hkeep', hdone⟩

/-- All the runs of an ACTIVE block in encode: the block is DONE and keeps the invariant. -/
theorem runBlock_encoded {s : State} (h : BlockInv s) (ha : s.cer.phase = .active) (hm : s.cer.mode = .encode) :
    ∃ t, runBlock s = .done t true ∧ Encodes s t ∧ t.cer.phase = .done ∧ DoneOk t.cer := by
  obtain ⟨t, ht, hkeep, hdone⟩ := runUntilFinal_encoded h ha hm le_rfl
  have hok : (RunEnd.done t true).Ok := ht ▸ runUntilFinal_ok h ha
  exact ⟨t, ht, hkeep, hdone, ((blockInv_iff t).mp hok.1).2.2 hdone⟩

end Sys2Proof.Machine
end

section
/-! The length of a codeword: the block format fits in BOUT where the premise of CER.ENCBLK's statement holds
(41_universal_codes.md R130..R139). -/

namespace Sys2Proof.Machine

theorem two_mul_log2_le (n : Nat) : 2 * Nat.log2 n ≤ n := by
  obtain rfl | hn := Nat.eq_zero_or_pos n
  · simp
  · have hpow : 2 ^ Nat.log2 n ≤ n := Nat.log2_self_le (by omega)
    obtain hk | ⟨k, hk⟩ : Nat.log2 n = 0 ∨ ∃ k, Nat.log2 n = k + 1 := by
      cases Nat.log2 n with
      | zero => exact .inl rfl
      | succ k => exact .inr ⟨k, rfl⟩
    · omega
    · have hlt := Nat.lt_two_pow_self (n := k)
      rw [hk, pow_succ] at hpow
      omega

theorem encGamma_length (n : Nat) : (encGamma n).length = 2 * Nat.log2 n + 1 := by
  simp [encGamma, encUnary]
  omega

/-! Enbonacci codewords. -/

theorem enbPlaces_length (k n : Nat) : (enbPlaces k n).length = n := by
  induction n with
  | zero => rfl
  | succ n ih => simp [enbPlaces, ih]

/-- The place values of an order k ≥ 1 are positive. -/
theorem enbPlaces_pos {k : Nat} (hk : 1 ≤ k) (n : Nat) : ∀ a ∈ enbPlaces k n, 1 ≤ a := by
  induction n with
  | zero => simp [enbPlaces]
  | succ n ih =>
    refine List.forall_mem_cons.mpr ⟨?_, ih⟩
    split
    · exact Nat.one_le_two_pow
    · rename_i hn
      have hlen := enbPlaces_length k n
      cases hp : enbPlaces k n with
      | nil => simp [hp] at hlen; omega
      | cons a l =>
        rw [hp] at ih
        obtain ⟨ha, -⟩ := List.forall_mem_cons.mp ih
        obtain ⟨k, rfl⟩ : ∃ j, k = j + 1 := ⟨k - 1, by omega⟩
        simp
        omega

/-- Each length class holds a value, so class m starts at m or later. -/
theorem le_enbOffset {k m : Nat} (hk : 1 ≤ k) : m ≤ enbOffset k m := by
  unfold enbOffset
  split
  · assumption
  · have hsum := List.length_le_sum_of_one_le _ (enbPlaces_pos hk (m - 2))
    rw [enbPlaces_length] at hsum
    omega

theorem enbClassFrom_le {k v m fuel : Nat} (hk : 1 ≤ k) (hm : m ≤ v) : enbClassFrom k v m fuel ≤ v := by
  induction fuel generalizing m with
  | zero => exact hm
  | succ fuel ih =>
    unfold enbClassFrom
    split
    · exact hm
    · have hoff := le_enbOffset (m := m + 1) hk
      exact ih (by omega)

theorem enbZrep_length (k n r : Nat) : (enbZrep k n r).length = n := by
  induction n generalizing r with
  | zero => rfl
  | succ n ih =>
    unfold enbZrep
    split <;> simp [ih]

theorem encEnb_length_le {k : Nat} (hk : 1 ≤ k) (v : Nat) : (encEnb k v).length ≤ v + k := by
  unfold encEnb
  split
  · simp
  · have hclass : enbClass k v ≤ v := enbClassFrom_le hk (by omega)
    simp [enbZrep_length]
    omega

/-! Codewords of every codec but the Iotas. -/

/-- The bound M is no part of the other codewords. -/
theorem encCode_of_not_iota {c : Codec} (hc : isIota c = false) (m m' n : Nat) : encCode c m n = encCode c m' n := by
  cases c with
  | giota | diota => cases hc
  | _ => rfl

theorem encCode_length_le {c : Codec} (hc : isIota c = false) (m n : Nat) : (encCode c m n).length ≤ n + 8 := by
  have hlog := two_mul_log2_le n
  have hlog' := two_mul_log2_le (bitLen n)
  have henb {k : Nat} (h1 : 1 ≤ k) (h8 : k ≤ 8) : (encEnb k n).length ≤ n + 8 :=
    (encEnb_length_le h1 n).trans (Nat.add_le_add_left h8 n)
  have hfib (v : Nat) : (encEnb 2 v).length ≤ v + 2 := encEnb_length_le (by decide) v
  cases c with
  | giota | diota => cases hc
  | fib | trib | enb4 | enb5 | enb6 | enb7 | enb8 => exact henb (by decide) (by decide)
  | unary => simp [encCode, encUnary]
  | gamma =>
    simp only [encCode, encGamma_length]
    omega
  | delta =>
    simp only [encCode, encDelta, List.length_append, encGamma_length, binMsb_length, bitLen] at hlog' ⊢
    omega
  | gfib =>
    have hprefix := hfib (Nat.log2 n + 1)
    simp only [encCode, encGFib, List.length_append, binMsb_length]
    omega
  | dfib =>
    have hprefix := hfib (Nat.log2 (bitLen n) + 1)
    simp only [encCode, encDFib, List.length_append, binMsb_length, bitLen] at hlog' hprefix ⊢
    omega

/-- A run length is shifted by at most one into the domain of the run codec. -/
theorem adaptIn1_le (c : Codec) (p : Nat) : (adaptIn1 c p).toNat ≤ p + 1 := by
  unfold adaptIn1
  split <;> omega

theorem inDomain_adaptIn1 {c : Codec} (hc : isIota c = false) (m p : Nat) : inDomain c m (adaptIn1 c p) = true := by
  cases c with
  | giota | diota => cases hc
  | _ => simp [inDomain, adaptIn1, zeroSafe]

end Sys2Proof.Machine
end

section
/-! CER.ENCBLK: the start of the block, and the block format written once its runs are over (45_cer.md R304, R305). -/

namespace Sys2Proof.Machine

/-! The press data. -/

theorem codewords_cons (c : Codec) (m : Nat) (d : Dom) (v : Int) (vs : List Int) :
    codewords c m d (v :: vs) = codeword c m d v ++ codewords c m d vs := rfl

theorem codeword_length_le {c : Codec} (hc : isIota c = false) (m p : Nat) :
    (codeword c m .unsigned p).length ≤ p + 9 := by
  have hlen := encCode_length_le hc m (adaptIn1 c p).toNat
  have hin := adaptIn1_le c p
  exact hlen.trans (by omega)

theorem codewords_length_le {c : Codec} (hc : isIota c = false) (m : Nat) (press : List Nat) :
    (codewords c m .unsigned (press.map Int.ofNat)).length ≤ press.sum + 9 * press.length := by
  induction press with
  | nil => simp [codewords]
  | cons p press ih =>
    have hlen := codeword_length_le hc m p
    simp only [List.map_cons, codewords_cons, List.length_append, List.sum_cons, List.length_cons]
    exact (Nat.add_le_add hlen ih).trans (by omega)

/-- The run lengths are written codeword after codeword where they fit. -/
theorem foldlM_writePress {c : Codec} (hc : isIota c = false) (m m' : Nat) (press : List Nat) (b : Bits)
    (hfit : b.length + (codewords c m' .unsigned (press.map Int.ofNat)).length ≤ Config.bitCap) :
    press.foldlM (writePress c m) b = .ok (b ++ codewords c m' .unsigned (press.map Int.ofNat)) := by
  induction press generalizing b with
  | nil => simp [codewords, pure, Except.pure]
  | cons p press ih =>
    have hword : codeword c m' .unsigned (Int.ofNat p) = encCode c m (adaptIn1 c p).toNat :=
      encCode_of_not_iota hc m' m _
    simp only [List.map_cons, codewords_cons, hword, List.length_append] at hfit ⊢
    have hwrite : writePress c m b p = .ok (b ++ encCode c m (adaptIn1 c p).toNat) :=
      bitsWrite_ok _ _ _ (by rw [codeLen_eq]; omega)
    rw [List.foldlM_cons, bind_of_ok hwrite, ih _ (by rw [List.length_append]; omega), List.append_assoc]

/-! The header. -/

theorem ceilLog2_eq_clog {m : Nat} (hm : 1 ≤ m) : ceilLog2 m = Nat.clog 2 m := by
  obtain ⟨r, rfl⟩ : ∃ r, m = r + 1 := ⟨m - 1, by omega⟩
  exact tsumWidth_eq r

theorem blockHeader_length_le {c : Cer} (hg : GeometryOk c.n c.v) : (blockHeader c).length ≤ 94 := by
  obtain ⟨hn, hnmax, hv, hvmax⟩ := hg
  have hlogn : Nat.log2 c.n < 13 := (Nat.log2_lt (by omega)).mpr (hnmax.trans_lt (by decide))
  have hlogv : Nat.log2 c.v < 17 := (Nat.log2_lt (by omega)).mpr (hvmax.trans_lt (by decide))
  have hclog : Nat.clog 2 c.v ≤ 16 := (Nat.clog_le_iff_le_pow (by omega)).mpr hvmax
  simp only [blockHeader, List.length_append, encGamma_length, binMsb_length, ceilLog2_eq_clog (by omega : 1 ≤ c.v)]
  omega

theorem forM_pass {α : Type} {f : α → Except Err Unit} {l : List α} (h : ∀ a ∈ l, f a = .ok ()) :
    l.forM f = .ok () := by
  induction l with
  | nil => rfl
  | cons a l ih =>
    obtain ⟨ha, hl⟩ := List.forall_mem_cons.mp h
    exact (bind_of_ok ha _).trans (ih hl)

/-- The block format is written where it fits (45_cer.md R304). -/
theorem writeBlock_eq {c : Codec} (hc : isIota c = false) (m : Nat) {cer : Cer} {b : Bits}
    (hfit : b.length + (blockHeader cer).length + (codewords c m .unsigned (cer.press.map Int.ofNat)).length
      ≤ Config.bitCap) :
    writeBlock c cer b = .ok (b ++ blockHeader cer ++ codewords c m .unsigned (cer.press.map Int.ofNat)) := by
  have hdomain : cer.press.forM (requirePress c (zext cer.cfgIotaMax)) = .ok () :=
    forM_pass fun p _ => require_pos (inDomain_adaptIn1 hc _ p) _
  refine (bind_of_ok hdomain _).trans ((bind_of_ok (bitsWrite_ok _ _ _ (by omega)) _).trans ?_)
  exact foldlM_writePress hc _ m _ _ (by rw [List.length_append]; exact hfit)

/-- A block that is DONE needs no more room than its geometry tells (45_cer.md R293). -/
theorem blockFormat_length_le {c : Codec} (hc : isIota c = false) (m : Nat) {cer : Cer} (hg : GeometryOk cer.n cer.v)
    (hd : DoneOk cer) :
    (blockHeader cer).length + (codewords c m .unsigned (cer.press.map Int.ofNat)).length
      ≤ (cer.n - 2) * (cer.v - 1) + 9 * cer.n + 100 := by
  obtain ⟨-, hlen, hruns, hsum, hhits, helims, -, -⟩ := hd
  have hhead := blockHeader_length_le hg
  have hwords := codewords_length_le hc m cer.press
  obtain ⟨hn, -, hv, -⟩ := hg
  have hsum' : cer.press.sum ≤ (cer.n - 2) * (cer.v - 1) := by
    zify [hn, (by omega : 1 ≤ cer.v)]
    exact_mod_cast hsum ▸ helims
  omega

/-! The start of the block. -/

theorem checkMethod_cases (cfg : Word) :
    MethodOk cfg ∧ checkMethod cfg = .ok () ∨ ¬MethodOk cfg ∧ checkMethod cfg = .error (illegalErr 0x55#8 .unstated) := by
  unfold checkMethod MethodOk
  exact (Decidable.em _).imp (fun h => ⟨h, require_pos h _⟩) fun h => ⟨h, require_neg h _⟩

theorem requireGeometry_pass {n v : Nat} (h : GeometryOk n v) : requireGeometry n v = .ok () := by
  obtain ⟨h1, h2, h3, h4⟩ := h
  exact (bind_of_ok (require_pos ⟨h1, h2⟩ _) _).trans (require_pos ⟨h3, h4⟩ _)

/-- CheckMethod and CheckCache refuse with the same report (44_spline.md R240). -/
theorem cerCheckConfig_cases {n v : Nat} {cfg : Word} {s : State} (hg : GeometryOk n v) :
    MethodOk cfg ∧ locpolField s.cfgCache ≤ 2 ∧ cerCheckConfig n v cfg s = .ok ()
      ∨ (¬MethodOk cfg ∨ 2 < locpolField s.cfgCache) ∧ cerCheckConfig n v cfg s = .error (illegalErr 0x55#8 .unstated) := by
  have hchecks : cerCheckConfig n v cfg s = checkMethod cfg >>= fun _ => checkCache s.cfgCache :=
    bind_of_ok (requireGeometry_pass hg) _
  rw [hchecks]
  obtain ⟨hm, hpass⟩ | ⟨hm, hfail⟩ := checkMethod_cases cfg
  · rw [bind_of_ok hpass]
    by_cases hl : locpolField s.cfgCache ≤ 2
    · exact .inl ⟨hm, hl, require_pos hl _⟩
    · exact .inr ⟨.inr (by omega), require_neg hl _⟩
  · exact .inr ⟨.inl hm, bind_of_error hfail _⟩

theorem cerCheckConfig_pass {n v : Nat} {cfg : Word} {s : State} (hg : GeometryOk n v) (hm : MethodOk cfg)
    (hl : locpolField s.cfgCache ≤ 2) : cerCheckConfig n v cfg s = .ok () := by
  obtain ⟨-, -, h⟩ | ⟨hm' | hl', -⟩ := cerCheckConfig_cases (s := s) (cfg := cfg) hg
  · exact h
  · exact absurd hm hm'
  · omega

/-- The run codec of a valid RCID, with the check of its bound alone left. -/
theorem cerCheckCodec_of_id {rcid : Nat} {c : Codec} (h : rcid = c.id) (m : Nat) :
    cerCheckCodec rcid m = requireBound c m >>= fun _ => .ok c := by
  subst h
  cases c <;> rfl

/-- The block that an encode starts from SIN. -/
def encodeBlock (psrc : PressSrc) (s : State) : State :=
  blockInit .encode psrc (zext s.cfgN) (zext s.cfgV) s.cfgMethod ((plaintext s).map some) ((plaintext s).getD 0 0)
    ((plaintext s).getD (zext s.cfgN - 1) 0) { s with sin := s.sin.drop (zext s.cfgN) }

theorem startEncode_eq {s : State} (psrc : PressSrc) (h : EncodeReady s) :
    startEncode psrc s = .ok (encodeBlock psrc s) := by
  obtain ⟨-, -, -, hlen, hrange⟩ := h
  have hsamples : cerSamples (zext s.cfgN) (zext s.cfgV) s = .ok (plaintext s) := by
    have hall : (plaintext s).forM (requireSample (zext s.cfgV)) = .ok () :=
      forM_pass fun e he => require_pos (hrange e he) _
    exact (bind_of_ok (require_pos hlen _) _).trans (bind_of_ok hall _)
  exact bind_of_ok hsamples _

theorem beginEncblk_eq {s : State} {c : Codec} (h : EncodeReady s) (hrcid : rcidField s.cfgCodec = c.id)
    (hc : isIota c = false) : beginEncblk s = .ok (c, encodeBlock .sin s) := by
  have hcodec : cerCheckCodec (rcidField s.cfgCodec) (zext s.cfgIotaMax) = .ok c := by
    rw [cerCheckCodec_of_id hrcid, bind_of_ok (requireBound_pass (by simp [hc]))]
  have hstart := startEncode_eq .sin h
  obtain ⟨hg, hm, hl, -⟩ := h
  exact (bind_of_ok (cerCheckConfig_pass hg hm hl) _).trans ((bind_of_ok hcodec _).trans (bind_of_ok hstart _))

/-- What the whole work on a new block, up to its final run, leaves of the state before it and of the new CER. -/
theorem encodeBlock_encodes (psrc : PressSrc) (s : State) :
    Encodes (newBlock .encode psrc (zext s.cfgN) (zext s.cfgV) s.cfgMethod ((plaintext s).map some)
      ((plaintext s).getD 0 0) ((plaintext s).getD (zext s.cfgN - 1) 0) { s with sin := s.sin.drop (zext s.cfgN) })
      (encodeBlock psrc s) := pushCells_encodes _ _

/-- The runs of CER.ENCBLK come to the end of the block. -/
theorem encodeBlock_runs {s : State} {psrc : PressSrc} (h : EncodeReady s) :
    ∃ t, runBlock (encodeBlock psrc s) = .done t true ∧ t.cer.phase = .done ∧ DoneOk t.cer
      ∧ { s with sin := s.sin.drop (zext s.cfgN), spl := t.spl, cat := t.cat, cer := t.cer } = t
      ∧ t.cer.n = zext s.cfgN ∧ t.cer.v = zext s.cfgV ∧ t.cer.cfgMethod = s.cfgMethod
      ∧ t.cer.plain = (plaintext s).map some := by
  have hstart := startEncode_eq psrc h
  obtain ⟨hg, hm, -⟩ := h
  have hbegun : Begun s (encodeBlock psrc s) := startEncode_begun hg hm hstart
  have hblock := encodeBlock_encodes psrc s
  obtain ⟨t, ht, hkeep, hdone, hok⟩ := runBlock_encoded hbegun.inv hbegun.active hblock.mode
  have hall := hblock.trans hkeep
  refine ⟨t, ht, hdone, hok, hall.frame, ?_, ?_, ?_, hall.plain⟩ <;> rw [← hall.cer] <;> rfl

/-! The command. -/

/-- The header of an encoded block holds the geometry, the method and the first and last sample (45_cer.md R304). -/
theorem blockHeader_of_encode {s : State} {cer : Cer} (h : EncodeReady s) (hn : cer.n = zext s.cfgN)
    (hv : cer.v = zext s.cfgV) (hcfg : cer.cfgMethod = s.cfgMethod) (hplain : cer.plain = (plaintext s).map some) :
    ∃ v0 v1 : Nat, (plaintext s).head? = some (v0 : Int) ∧ (plaintext s).getLast? = some (v1 : Int)
      ∧ blockHeader cer = encGamma s.cfgN.toNat ++ encGamma s.cfgV.toNat ++ binMsb 4 (methodField s.cfgMethod)
          ++ binMsb (Nat.clog 2 s.cfgV.toNat) v0 ++ binMsb (Nat.clog 2 s.cfgV.toNat) v1 := by
  obtain ⟨⟨hn2, -, hv2, -⟩, -, -, hlen, hrange⟩ := h
  have hplen : (plaintext s).length = zext s.cfgN := List.length_take_of_le hlen
  have hat {x : Nat} (hx : x < zext s.cfgN) :
      ∃ y : Nat, (plaintext s)[x]? = some (y : Int) ∧ sampleNat cer.plain x = y := by
    have hx' : x < (plaintext s).length := hplen ▸ hx
    obtain ⟨y, hy⟩ := Int.eq_ofNat_of_zero_le (hrange _ (List.getElem_mem hx')).1
    have hget : (plaintext s)[x]? = some (y : Int) := by rw [List.getElem?_eq_getElem hx', hy]
    exact ⟨y, hget, by simp [sampleNat, plainAt, hplain, List.getD_eq_getElem?_getD, hget]⟩
  obtain ⟨v0, h0, hs0⟩ := hat (x := 0) (by omega)
  obtain ⟨v1, h1, hs1⟩ := hat (x := zext s.cfgN - 1) (by omega)
  refine ⟨v0, v1, by rw [List.head?_eq_getElem?, h0], by rw [List.getLast?_eq_getElem?, hplen, h1], ?_⟩
  rw [blockHeader, hn, hs0, hs1, hv, hcfg, ceilLog2_eq_clog (by omega)]
  rfl

theorem exec_cerEncblk_refused {s : State} {e : Err} (h : beginEncblk s = .error e) :
    exec .cerEncblk s = .next (raiseError e s) := by
  show execCerEncblk s = _
  simp only [execCerEncblk, h]

/-- CER.ENCBLK once its block is over and the format fits. -/
theorem exec_cerEncblk_done {s t u : State} {c : Codec} {bits : Bits} (hb : beginEncblk s = .ok (c, t))
    (hr : runBlock t = .done u true) (hw : writeBlock c u.cer u.bout = .ok (u.bout ++ bits)) :
    exec .cerEncblk s = .next (complete { u with
      bout := u.bout ++ bits
      res0 := BitVec.ofNat 32 bits.length
      res1 := BitVec.ofNat 32 u.cer.press.length }) := by
  show execCerEncblk s = _
  simp only [execCerEncblk, hb, endEncblk, hr, hw, List.length_append, Nat.add_sub_cancel_left]

/-- Settles O57: the checks pass, the runs of the block come to the final one, and what they leave fits in BOUT; a
configuration that a check refuses is refused before the block starts. -/
theorem encodeBlockCompletes : Obligations.EncodeBlockCompletes := by
  refine ⟨fun s c h hrcid hc hroom => ?_, fun s hg => ⟨fun hbad => ?_, fun c hm hl hrcid hc hlow => ?_⟩⟩
  · obtain ⟨t, hrun, hphase, hdone, hframe, hn, hv, hcfg, hplain⟩ := encodeBlock_runs (psrc := .sin) h
    obtain ⟨v0, v1, hfirst, hlast, hheader⟩ := blockHeader_of_encode h hn hv hcfg hplain
    have hbout : t.bout = s.bout := by rw [← hframe]
    have hsize := blockFormat_length_le hc 0 (by rw [hn, hv]; exact h.1) hdone
    rw [hn, hv] at hsize
    have hfit : t.bout.length + (blockHeader t.cer).length
        + (codewords c 0 .unsigned (t.cer.press.map Int.ofNat)).length ≤ Config.bitCap := by
      rw [hbout]
      exact le_trans (by unfold zext at hsize; omega) hroom
    have hwrite := writeBlock_eq hc 0 hfit
    rw [List.append_assoc] at hwrite
    obtain ⟨-, hlen, hruns, hsum, -⟩ := hdone
    refine ⟨_, _, v0, v1, exec_cerEncblk_done (beginEncblk_eq h hrcid hc) hrun hwrite, ?_, hphase, hfirst, hlast,
      congrArg (· ++ _) hheader, congrArg (· ++ _) hbout, rfl, rfl, hplain, ?_, ?_, ?_, hsum, hlen.trans hruns⟩
    all_goals
      rw [← hframe]
      rfl
  · refine exec_cerEncblk_refused ?_
    obtain ⟨hm, hl, hpass⟩ | ⟨-, hfail⟩ := cerCheckConfig_cases (s := s) (cfg := s.cfgMethod) hg
    · have hcid : 13 < rcidField s.cfgCodec := (hbad.resolve_left (not_not.mpr hm)).resolve_left (by omega)
      obtain ⟨-, hnone⟩ | ⟨hle, -⟩ := codecOfId_cases (rcidField s.cfgCodec)
      · have hcodec : cerCheckCodec (rcidField s.cfgCodec) (zext s.cfgIotaMax)
            = .error (illegalErr 0x55#8 .unstated) := by
          simp only [cerCheckCodec, hnone]
        exact (bind_of_ok hpass _).trans (bind_of_error hcodec _)
      · omega
    · exact bind_of_error hfail _
  · refine exec_cerEncblk_refused ((bind_of_ok (cerCheckConfig_pass hg hm hl) _).trans (bind_of_error ?_ _))
    exact (cerCheckCodec_of_id hrcid _).trans (bind_of_error (requireBound_refuse hc hlow) _)

end Sys2Proof.Machine
end

section
/-! The resets and the CTL commands. -/

namespace Sys2Proof.Machine

/-! The two resets. -/

/-- An access that may act is the one the sequencer picks. -/
theorem hostTurn_of_actsNext {a : HostAccess} {rest : List HostEvent} {s : State} (h : ActsNext a rest s) :
    hostTurn s = some (a, rest) := by
  obtain ⟨early, hhost, hs | rfl⟩ := h
  · exact hostTurn_idle hs hhost
  · simp [hostTurn, hhost]

theorem step_of_actsNext {a : HostAccess} {rest : List HostEvent} {s : State} (h : ActsNext a rest s) :
    step s = .next (hostAccess a { s with host := rest }) := by
  obtain ⟨_, _, ht, he⟩ | ⟨ht, -⟩ | ⟨ht, -⟩ := step_cases s <;> cases (hostTurn_of_actsNext h).symm.trans ht
  exact he

/-- Settles O8: the next access is performed, and a reset pulse is `hardReset`; CTL.SRESET completes in `softReset`. -/
theorem resetsRestoreReset : Obligations.ResetsRestoreReset :=
  ⟨fun _ _ h => step_of_actsNext h, exec_ctlSreset⟩

/-! The other CTL commands. -/

theorem exec_ctlNop (s : State) : exec .ctlNop s = .next (complete s) := rfl

/-- The high half of a mask is 0 exactly when the mask is below 16 (40_control.md R112). -/
theorem flushMaskOk_iff (m : BitVec 8) : flushMaskOk m = true ↔ m.toNat < 16 := by
  have hm := m.isLt
  rw [flushMaskOk, beq_iff_eq, ← BitVec.toNat_inj, BitVec.extractLsb'_toNat, Nat.shiftRight_eq_div_pow,
    BitVec.toNat_ofNat]
  omega

/-- The streams that CTL.FLUSH m empties (40_control.md R112). -/
def flushStreams (m : BitVec 8) (s : State) : State :=
  { s with
    bin := if m.getLsbD 0 then [] else s.bin
    bout := if m.getLsbD 1 then [] else s.bout
    sin := if m.getLsbD 2 then [] else s.sin
    sout := if m.getLsbD 3 then [] else s.sout }

theorem exec_ctlFlush_of_ok {m : BitVec 8} (h : flushMaskOk m = true) (s : State) :
    exec (.ctlFlush m) s = .next (complete (flushStreams m s)) :=
  congrArg (endCommand s) (bind_of_ok (require_pos h _) _)

theorem exec_ctlFlush_of_bad {m : BitVec 8} (h : ¬flushMaskOk m = true) (s : State) :
    exec (.ctlFlush m) s = .next (raiseError (illegalErr 0x52#8 (.val s.cur.toNat)) s) :=
  endCommand_of_error (bind_of_error (require_neg h _) _)

theorem exec_ctlCinv (s : State) :
    exec .ctlCinv s = .next (complete { s with spl := invalidateCaches s.spl }) := rfl

theorem invalidateCaches_of_invalid {spl : Spline} (h : spl.valid = false) : invalidateCaches spl = spl := by
  simp [invalidateCaches, h]

theorem invalidateCaches_of_valid {spl : Spline} (h : spl.valid = true) :
    invalidateCaches spl = refreshLocations { spl with vc := if spl.vcEn then [] else spl.vc } := by
  simp [invalidateCaches, h]

/-- Settles O9: CTL.FLUSH by its mask check, CTL.CINV by whether a Spline is initialised. -/
theorem controlCommandEffects : Obligations.ControlCommandEffects := by
  intro s
  refine ⟨exec_ctlNop s, fun m hm => ?_, fun m hm => ?_, fun hv => ?_, fun hv => ?_⟩
  · exact exec_ctlFlush_of_ok ((flushMaskOk_iff m).mpr hm) s
  · exact exec_ctlFlush_of_bad ((flushMaskOk_iff m).not.mpr (not_lt.mpr hm)) s
  · rw [exec_ctlCinv, invalidateCaches_of_invalid hv]
  · rw [exec_ctlCinv, invalidateCaches_of_valid hv]
    rfl

end Sys2Proof.Machine
end

section
/-! The reading procedures as parsers: what gives a value back whatever follows, and what a
codeword cut short does (41_universal_codes.md R125, R127). -/

namespace Sys2Proof.Machine

/-! Reading back what was written. -/

/-- From the bits w followed by any others, the reader takes exactly w and gives a. -/
def Reads {α : Type} (read : Bits → Except Stop (α × Bits)) (w : Bits) (a : α) : Prop :=
  ∀ t : Bits, read (w ++ t) = .ok (a, t)

/-- A reader that goes on with another reader, chosen by the value read. -/
theorem Reads.bind {α β : Type} {r : Bits → Except Stop (α × Bits)} {k : α × Bits → Except Stop (β × Bits)}
    {w w' : Bits} {a : α} {c : β} (hr : Reads r w a) (hk : Reads (fun b => k (a, b)) w' c) :
    Reads (fun b => r b >>= k) (w ++ w') c := by
  intro t
  show r (w ++ w' ++ t) >>= k = _
  rw [List.append_assoc, bind_of_ok (hr _)]
  exact hk t

/-- A reader behind a check that passes. -/
theorem Reads.check {α : Type} {p : Prop} [Decidable p] {st : Stop} {r : Bits → Except Stop (α × Bits)} {w : Bits}
    {a : α} (hp : ¬p) (hr : Reads r w a) : Reads (fun b => if p then .error st else r b) w a :=
  fun t => (if_neg hp).trans (hr t)

theorem reads_pure {α : Type} (a : α) : Reads (fun b => .ok (a, b)) [] a := fun _ => rfl

/-- The low bits of n below its highest one, read behind that one, give n. -/
theorem readInto_reads_log2 {n : Nat} (hn : 1 ≤ n) : Reads (readInto (Nat.log2 n) 1) (binMsb (Nat.log2 n) n) n := by
  intro t
  have hlow : 2 ^ Nat.log2 n ≤ n := Nat.log2_self_le (by omega)
  have hhigh : n < 2 ^ (Nat.log2 n + 1) := Nat.lt_log2_self
  have hmod : n % 2 ^ Nat.log2 n = n - 2 ^ Nat.log2 n := by
    rw [Nat.mod_eq_sub_mod hlow, Nat.mod_eq_of_lt (by omega)]
  rw [readInto_binMsb, hmod]
  congr 2
  omega

/-- A leading field of w ≥ 1 bits is read back if its value fits them. -/
theorem readPrefix_reads {w p : Nat} (hw : 1 ≤ w) (hp : p < 2 ^ w) : Reads (readPrefix w) (binMsb w p) p := by
  intro t
  obtain ⟨w, rfl⟩ : ∃ v, w = v + 1 := ⟨w - 1, by omega⟩
  have h := readInto_binMsb (w + 1) 0 p t
  rw [Nat.zero_mul, Nat.zero_add, Nat.mod_eq_of_lt hp] at h
  exact h

/-! Reading on. -/

/-- More bits behind those a reader has used change neither its value nor its refusal of a value; and it meets a clean
boundary only where it may start (`atStart`), when there is no bit at all. -/
structure Incremental {α : Type} (atStart : Bool) (read : Bits → Except Stop (α × Bits)) : Prop where
  ok : ∀ {b rest : Bits} {a : α} (t : Bits), read b = .ok (a, rest) → read (b ++ t) = .ok (a, rest ++ t)
  bad : ∀ {b : Bits} {v : Nat} (t : Bits), read b = .error (.bad v) → read (b ++ t) = .error (.bad v)
  clean : ∀ {b : Bits}, read b = .error .cleanEos → atStart = true ∧ b = []

theorem Incremental.bind {α β : Type} {z : Bool} {r : Bits → Except Stop (α × Bits)}
    {k : α × Bits → Except Stop (β × Bits)} (hr : Incremental z r)
    (hk : ∀ a, Incremental false fun b => k (a, b)) : Incremental z fun b => r b >>= k where
  ok := by
    intro b rest c t h
    obtain ⟨⟨a, mid⟩, hread, h⟩ := (except_bind_ok _ _ _).mp h
    exact (bind_of_ok (hr.ok t hread) _).trans ((hk a).ok t h)
  bad := by
    intro b v t h
    obtain h | ⟨⟨a, mid⟩, hread, h⟩ := (except_bind_error _ _ _).mp h
    · exact bind_of_error (hr.bad t h) _
    · exact (bind_of_ok (hr.ok t hread) _).trans ((hk a).bad t h)
  clean := by
    intro b h
    obtain h | ⟨⟨a, mid⟩, -, h⟩ := (except_bind_error _ _ _).mp h
    · exact hr.clean h
    · exact nomatch ((hk a).clean h).1

/-- A reader behind a check that refuses a value. -/
theorem Incremental.check {α : Type} {z : Bool} {p : Prop} [Decidable p] {v : Nat} {r : Bits → Except Stop (α × Bits)}
    (hr : Incremental z r) : Incremental z fun b => if p then .error (.bad v) else r b := by
  by_cases hp : p
  · simp only [if_pos hp]
    exact ⟨nofun, fun _ h => h, nofun⟩
  · simpa only [if_neg hp] using hr

theorem ok_incremental {α : Type} (z : Bool) (a : α) : Incremental z fun b => .ok (a, b) where
  ok := by
    rintro b rest _ t ⟨⟩
    rfl
  bad := nofun
  clean := nofun

/-- A reader that refuses no value, by its results at each string of bits. -/
theorem incremental_of_forall {α : Type} {z : Bool} {read : Bits → Except Stop (α × Bits)}
    (h : ∀ b : Bits, (∀ a rest t, read b = .ok (a, rest) → read (b ++ t) = .ok (a, rest ++ t))
      ∧ (∀ v, read b ≠ .error (.bad v)) ∧ (read b = .error .cleanEos → z = true ∧ b = [])) : Incremental z read where
  ok := fun t => (h _).1 _ _ t
  bad := fun _ hread => absurd hread ((h _).2.1 _)
  clean := (h _).2.2

theorem readInto_incremental (w v : Nat) : Incremental false (readInto w v) := by
  induction w generalizing v with
  | zero => exact ok_incremental false v
  | succ w ih =>
    refine ⟨?_, ?_, ?_⟩
    · rintro (_ | ⟨c, b⟩) rest a t h
      · cases h
      · exact (ih _).ok t h
    · rintro (_ | ⟨c, b⟩) u t h
      · cases h
      · exact (ih _).bad t h
    · rintro (_ | ⟨c, b⟩) h
      · cases h
      · exact nomatch ((ih _).clean h).1

theorem readPrefix_incremental (w : Nat) : Incremental true (readPrefix w) where
  ok := by
    rintro (_ | ⟨c, b⟩) rest a t h
    · cases h
    · exact (readInto_incremental w 0).ok t h
  bad := by
    rintro (_ | ⟨c, b⟩) u t h
    · cases h
    · exact (readInto_incremental w 0).bad t h
  clean := by
    rintro (_ | ⟨c, b⟩) h
    · exact ⟨rfl, rfl⟩
    · exact nomatch ((readInto_incremental w 0).clean h).1

/-- Once zeros were read, the counter of unary meets no clean boundary. -/
theorem decUnaryFrom_incremental (z : Nat) : Incremental (decide (z = 0)) (decUnaryFrom z) := by
  refine incremental_of_forall fun b => ?_
  induction b generalizing z with
  | nil =>
    by_cases hz : z = 0 <;> simp [decUnaryFrom, hz]
  | cons c b ih =>
    cases c with
    | true => simp [decUnaryFrom]
    | false =>
      obtain ⟨hok, hbad, hclean⟩ := ih (z + 1)
      exact ⟨hok, hbad, fun h => nomatch (hclean h).1⟩

end Sys2Proof.Machine
end

section
/-! The enbonacci codes: every codeword ends at its first run of k ones, and the place values of its other bits add up to
the value's distance from its length class (41_universal_codes.md R133..R135). -/

namespace Sys2Proof.Machine

/-! Place values and offsets. -/

theorem enbPlaces_succ (k n : Nat) : enbPlaces k (n + 1) = enbPlace k n :: enbPlaces k n := rfl

theorem enbPlace_of_lt {k i : Nat} (h : i < k) : enbPlace k i = 2 ^ i := if_pos h

theorem enbPlace_of_le {k i : Nat} (h : k ≤ i) : enbPlace k i = ((enbPlaces k i).take k).sum := if_neg (not_lt.mpr h)

/-- The place values are complete: each is at most one more than the sum of the lower ones. -/
theorem enbPlace_le_sum (k n : Nat) : enbPlace k n ≤ (enbPlaces k n).sum + 1 := by
  obtain hn | hn := Nat.lt_or_ge n k
  · have hsum : ∀ i ≤ n, 2 ^ i = (enbPlaces k i).sum + 1 := by
      intro i hi
      induction i with
      | zero => rfl
      | succ i ih =>
        rw [enbPlaces_succ, List.sum_cons, enbPlace_of_lt (by omega), pow_succ, ih (by omega)]
        omega
    rw [enbPlace_of_lt hn, hsum n le_rfl]
  · rw [enbPlace_of_le hn]
    exact ((List.take_sublist _ _).sum_le_sum (fun _ _ => Nat.zero_le _)).trans (Nat.le_succ _)

/-- The j + 1 highest places below n + j + 1 are the j highest and place n. -/
theorem enbPlaces_take_succ (k n j : Nat) :
    ((enbPlaces k (n + j + 1)).take (j + 1)).sum = ((enbPlaces k (n + j + 1)).take j).sum + enbPlace k n := by
  induction j with
  | zero => simp [enbPlaces_succ]
  | succ j ih =>
    rw [enbPlaces_succ, List.take_succ_cons, List.sum_cons, ← Nat.add_assoc n j 1, ih, List.take_succ_cons,
      List.sum_cons]
    omega

/-- A length class m ≥ 2 holds as many values as place m - 2 says. -/
theorem enbOffset_succ {k m : Nat} (hm : 2 ≤ m) : enbOffset k (m + 1) = enbOffset k m + enbPlace k (m - 2) := by
  obtain ⟨n, rfl⟩ : ∃ n, m = n + 2 := ⟨m - 2, by omega⟩
  simp only [enbOffset, Nat.add_sub_cancel, show n + 2 + 1 - 2 = n + 1 by omega, enbPlaces_succ, List.sum_cons]
  rw [if_neg (by omega), if_neg (by omega)]
  omega

/-- The upward search finds the length class. -/
theorem enbClassFrom_spec {k v m fuel : Nat} (hk : 1 ≤ k) (hm : 2 ≤ m) (hv : enbOffset k m ≤ v)
    (hfuel : v ≤ m + fuel) :
    2 ≤ enbClassFrom k v m fuel ∧ enbOffset k (enbClassFrom k v m fuel) ≤ v
      ∧ v < enbOffset k (enbClassFrom k v m fuel + 1) := by
  induction fuel generalizing m with
  | zero =>
    have hnext := le_enbOffset (m := m + 1) hk
    exact ⟨hm, hv, by simp only [enbClassFrom]; omega⟩
  | succ fuel ih =>
    unfold enbClassFrom
    split
    · exact ⟨hm, hv, by assumption⟩
    · exact ih (by omega) (by omega) (by omega)

theorem enbClass_spec {k v : Nat} (hk : 1 ≤ k) (hv : 2 ≤ v) :
    2 ≤ enbClass k v ∧ enbOffset k (enbClass k v) ≤ v
      ∧ v - enbOffset k (enbClass k v) < enbPlace k (enbClass k v - 2) := by
  obtain ⟨h2, hlow, hhigh⟩ := enbClassFrom_spec (m := 2) (fuel := v) hk le_rfl (show 2 ≤ v from hv) (by omega)
  rw [enbOffset_succ h2] at hhigh
  exact ⟨h2, hlow, by unfold enbClass; omega⟩

/-! The greedy representation. -/

theorem enbValueFrom_append (k i : Nat) (u w : Bits) :
    enbValueFrom k i (u ++ w) = enbValueFrom k i u + enbValueFrom k (i + u.length) w := by
  induction u generalizing i with
  | nil => simp [enbValueFrom]
  | cons c u ih =>
    simp only [List.cons_append, enbValueFrom, ih, List.length_cons]
    rw [show i + 1 + u.length = i + (u.length + 1) by omega, Nat.add_assoc]

/-- The greedy representation has the value it represents, if all places together reach it. -/
theorem enbValueFrom_enbZrep {k n r : Nat} (hr : r ≤ (enbPlaces k n).sum) : enbValueFrom k 0 (enbZrep k n r) = r := by
  induction n generalizing r with
  | zero => simpa [enbZrep, enbValueFrom, enbPlaces, eq_comm] using hr
  | succ n ih =>
    rw [enbPlaces_succ, List.sum_cons] at hr
    unfold enbZrep
    split
    · rw [enbValueFrom_append, ih (by omega), enbZrep_length]
      simp only [enbValueFrom, Nat.zero_add, if_true]
      omega
    · have hplace := enbPlace_le_sum k n
      rw [enbValueFrom_append, ih (by omega)]
      rfl

/-- No k consecutive ones. -/
def NoRun (k : Nat) (u : Bits) : Prop := ¬List.replicate k true <:+: u

theorem noRun_replicate {k j : Nat} (h : j < k) : NoRun k (List.replicate j true) := by
  intro hrun
  have hlen := hrun.length_le
  simp only [List.length_replicate] at hlen
  omega

/-- A zero separates runs. -/
theorem NoRun.append {k : Nat} {u w : Bits} (hu : NoRun k u) (hw : NoRun k w) (hk : 1 ≤ k) :
    NoRun k (u ++ false :: w) := by
  intro hrun
  obtain hrun | hrun | ⟨l, l', hl, hsuffix, hprefix⟩ := List.infix_append_iff.mp hrun
  · exact hu hrun
  · obtain hrun | hrun := List.infix_cons_iff.mp hrun
    · obtain ⟨k, rfl⟩ : ∃ j, k = j + 1 := ⟨k - 1, by omega⟩
      simp [List.replicate_succ] at hrun
    · exact hw hrun
  · cases l' with
    | nil =>
      rw [List.append_nil] at hl
      exact hu (hl ▸ hsuffix.isInfix)
    | cons c l' =>
      obtain ⟨rfl, -⟩ := List.cons_prefix_cons.mp hprefix
      have hfalse : false ∈ List.replicate k true := by simp [hl]
      simp at hfalse

/-- The greedy representation has no run of k ones: below j ones in a row it represents less than the j + 1 places from
its top one on leave, and with j = k - 1 that is less than the next place (41_universal_codes.md R133). -/
theorem enbZrep_noRun {k n r j : Nat} (hj : j < k)
    (hr : r + ((enbPlaces k (n + j)).take j).sum < enbPlace k (n + j)) :
    NoRun k (enbZrep k n r ++ List.replicate j true) := by
  induction n generalizing r j with
  | zero => exact noRun_replicate hj
  | succ n ih =>
    rw [show n + 1 + j = n + j + 1 by omega] at hr
    have hsplit := enbPlaces_take_succ k n j
    unfold enbZrep
    split
    · have hj' : j + 1 < k := by
        by_contra hlast
        obtain rfl : k = j + 1 := by omega
        rw [enbPlace_of_le (by omega)] at hr
        omega
      rw [List.append_assoc, List.singleton_append, ← List.replicate_succ]
      exact ih hj' (by rw [← Nat.add_assoc n j 1, hsplit]; omega)
    · rw [List.append_assoc, List.singleton_append]
      have hlow : NoRun k (enbZrep k n r ++ List.replicate 0 true) := ih (by omega) (by simpa using by omega)
      rw [List.replicate_zero, List.append_nil] at hlow
      exact hlow.append (noRun_replicate hj) (by omega)

/-! The scan. -/

/-- The ones that complete a run of k end the codeword. -/
theorem enbScan_ones {k ones : Nat} (h : ones < k) (acc t : Bits) :
    enbScan k acc ones (List.replicate (k - ones) true ++ t)
      = .ok (acc.reverse ++ List.replicate (k - ones) true, t) := by
  obtain ⟨j, rfl⟩ : ∃ j, k = ones + j + 1 := ⟨k - ones - 1, by omega⟩
  rw [show ones + j + 1 - ones = j + 1 by omega]
  induction j generalizing ones acc with
  | zero => simp [enbScan]
  | succ j ih =>
    have hnext := ih (ones := ones + 1) (true :: acc) (by omega)
    rw [show ones + 1 + j + 1 = ones + (j + 1) + 1 by omega] at hnext
    rw [List.replicate_succ, List.cons_append, enbScan]
    rw [if_pos rfl, if_neg (by omega), hnext]
    simp

/-- Bits without a run of k ones, then a zero and k ones: the scan ends exactly there. -/
theorem enbScan_codeword {k ones : Nat} {u : Bits} (hones : ones < k) (hu : NoRun k (List.replicate ones true ++ u))
    (acc t : Bits) :
    enbScan k acc ones (u ++ false :: List.replicate k true ++ t)
      = .ok (acc.reverse ++ u ++ false :: List.replicate k true, t) := by
  induction u generalizing acc ones with
  | nil =>
    have hend := enbScan_ones (show 0 < k by omega) (false :: acc) t
    simp only [Nat.sub_zero, List.reverse_cons, List.append_assoc, List.singleton_append] at hend
    simp only [List.nil_append, List.cons_append, enbScan, Bool.false_eq_true, if_false, List.append_nil]
    rw [if_neg (by omega), hend]
  | cons c u ih =>
    cases c with
    | true =>
      rw [List.append_cons, ← List.replicate_succ'] at hu
      have hones' : ones + 1 < k := by
        by_contra hlast
        obtain rfl : k = ones + 1 := by omega
        exact hu (List.prefix_append _ _).isInfix
      have hnext := ih hones' hu (true :: acc)
      simp only [List.cons_append, enbScan, if_true]
      rw [if_neg (by omega), hnext]
      simp
    | false =>
      have hnext := ih (show 0 < k by omega) (fun hrun => hu (hrun.trans ?_)) (false :: acc)
      · simp only [List.cons_append, enbScan, Bool.false_eq_true, if_false]
        rw [if_neg (by omega)]
        simpa using hnext
      · exact ((List.suffix_cons false u).trans (List.suffix_append _ _)).isInfix

/-! Codewords. -/

/-- A whole codeword of a length class m ≥ 2 has the class's offset and the value of its free bits. -/
theorem enbWordValue_codeword (k : Nat) (u : Bits) :
    enbWordValue k (u ++ false :: List.replicate k true) = enbOffset k (u.length + 2) + enbValueFrom k 0 u := by
  have hlen : (u ++ false :: List.replicate k true).length = u.length + (k + 1) := by simp
  rw [enbWordValue, if_neg (by omega), hlen, Nat.add_sub_cancel, List.take_left]

/-- The value 1 is the run of k ones alone. -/
theorem decEnb_reads_one {k : Nat} (hk : 1 ≤ k) : Reads (decEnb k) (List.replicate k true) 1 := by
  intro t
  refine (bind_of_ok (enbScan_ones (show 0 < k by omega) [] t) _).trans ?_
  simp [enbWordValue, pure, Except.pure]

/-- A greater value is its place in its length class. -/
theorem decEnb_reads_class {k m r : Nat} (hk : 1 ≤ k) (hm : 2 ≤ m) (hr : r < enbPlace k (m - 2)) :
    Reads (decEnb k) (enbZrep k (m - 2) r ++ false :: List.replicate k true) (enbOffset k m + r) := by
  intro t
  have hsum := enbPlace_le_sum k (m - 2)
  have hrun := enbZrep_noRun (j := 0) (show 0 < k by omega) (by simpa using hr)
  rw [List.replicate_zero, List.append_nil] at hrun
  refine (bind_of_ok (enbScan_codeword (ones := 0) (by omega) hrun [] t) _).trans ?_
  simp only [List.reverse_nil, List.nil_append, enbWordValue_codeword, enbZrep_length, pure, Except.pure]
  rw [enbValueFrom_enbZrep (by omega), Nat.sub_add_cancel hm]

theorem decEnb_reads {k v : Nat} (hk : 1 ≤ k) (hv : 1 ≤ v) : Reads (decEnb k) (encEnb k v) v := by
  unfold encEnb
  split
  · obtain rfl : v = 1 := by omega
    exact decEnb_reads_one hk
  · obtain ⟨hclass, hlow, hr⟩ := enbClass_spec hk (show 2 ≤ v by omega)
    have hreads := decEnb_reads_class hk hclass hr
    rwa [Nat.add_sub_cancel' hlow] at hreads

/-- The scan meets a clean boundary only before its first bit. -/
theorem enbScan_incremental (k : Nat) (acc : Bits) (ones : Nat) : Incremental acc.isEmpty (enbScan k acc ones) := by
  refine incremental_of_forall fun b => ?_
  induction b generalizing acc ones with
  | nil => by_cases hacc : acc.isEmpty = true <;> simp [enbScan, hacc]
  | cons c b ih =>
    simp only [List.cons_append, enbScan]
    generalize (if c then ones + 1 else 0) = ones'
    split
    · simp
    · obtain ⟨hok, hbad, hclean⟩ := ih (c :: acc) ones'
      exact ⟨hok, hbad, fun h => nomatch (hclean h).1⟩

theorem decEnb_incremental (k : Nat) : Incremental true (decEnb k) :=
  (enbScan_incremental k [] 0).bind fun c => ok_incremental false (enbWordValue k c)

end Sys2Proof.Machine
end

section
/-! The fourteen codecs: the round-trip law, and what is read of a codeword cut short (41_universal_codes.md R125..R139). -/

namespace Sys2Proof.Machine

/-! Codecs without a bound. -/

theorem decUnary_reads (n : Nat) : Reads decUnary (encUnary n) n := by
  have hfrom : ∀ z : Nat, Reads (decUnaryFrom z) (encUnary n) (z + n) := by
    induction n with
    | zero => exact fun z t => rfl
    | succ n ih =>
      intro z t
      have hnext := ih (z + 1) t
      rw [show z + 1 + n = z + (n + 1) by omega] at hnext
      exact hnext
  have h := hfrom 0
  rwa [Nat.zero_add] at h

theorem decGamma_reads {n : Nat} (hn : 1 ≤ n) : Reads decGamma (encGamma n) n :=
  (decUnary_reads _).bind (readInto_reads_log2 hn)

theorem decDelta_reads {n : Nat} (hn : 1 ≤ n) : Reads decDelta (encDelta n) n :=
  (decGamma_reads (Nat.succ_pos _)).bind (readInto_reads_log2 hn)

theorem decGFib_reads {n : Nat} (hn : 1 ≤ n) : Reads decGFib (encGFib n) n :=
  (decEnb_reads (by decide) (Nat.succ_pos _)).bind (readInto_reads_log2 hn)

theorem decDFib_reads {n : Nat} (hn : 1 ≤ n) : Reads decDFib (encDFib n) n := by
  unfold encDFib
  rw [List.append_assoc]
  exact (decEnb_reads (by decide) (Nat.succ_pos _)).bind
    ((readInto_reads_log2 (Nat.succ_pos _)).bind (readInto_reads_log2 hn))

/-! The Iota codecs. -/

theorem log2_mono {n m : Nat} (h : n ≤ m) : Nat.log2 n ≤ Nat.log2 m := by
  rw [Nat.log2_eq_log_two, Nat.log2_eq_log_two]
  exact Nat.log_mono_right h

/-- A legal bound has at least two bits, so the leading field of an Iota codeword is not empty. -/
theorem two_le_ceilLog2 {m : Nat} (hm : 3 ≤ m) : 2 ≤ ceilLog2 m := by
  rw [ceilLog2_eq_clog (by omega)]
  exact (Nat.lt_clog_iff_pow_lt (by decide)).mpr hm

theorem one_le_iotaWidth {m : Nat} (hm : 3 ≤ m) : 1 ≤ iotaWidth m := by
  have htwo := two_le_ceilLog2 hm
  rw [iotaWidth, ceilLog2_eq_clog (by omega)]
  exact (Nat.lt_clog_iff_pow_lt (by decide)).mpr htwo

/-- The leading field of δ-Iota takes the length of every length up to the bound's (41_universal_codes.md R137). -/
theorem log2_bitLen_lt {m n : Nat} (hm : 3 ≤ m) (hn : n ≤ m) : Nat.log2 (bitLen n) < 2 ^ iotaWidth m := by
  have htwo := two_le_ceilLog2 hm
  have hwidth : ceilLog2 m ≤ 2 ^ iotaWidth m := by
    rw [iotaWidth, ceilLog2_eq_clog (m := ceilLog2 m) (by omega)]
    exact Nat.le_pow_clog (by decide) _
  have hbound : n ≤ 2 ^ ceilLog2 m := by
    rw [ceilLog2_eq_clog (by omega)]
    exact hn.trans (Nat.le_pow_clog (by decide) _)
  have hlog : Nat.log2 n ≤ ceilLog2 m := by
    have h := log2_mono hbound
    rwa [Nat.log2_two_pow] at h
  have hpow : ceilLog2 m + 1 < 2 ^ ceilLog2 m := by
    obtain ⟨c, hc⟩ : ∃ c, ceilLog2 m = c + 2 := ⟨ceilLog2 m - 2, by omega⟩
    have hlt := Nat.lt_two_pow_self (n := c)
    rw [hc, pow_add]
    omega
  have hlen : Nat.log2 (bitLen n) < ceilLog2 m :=
    (Nat.log2_lt (Nat.succ_ne_zero _)).mpr ((Nat.succ_le_succ hlog).trans_lt hpow)
  omega

/-- The value of an Iota codeword, behind its last check. -/
theorem boundedValue_reads {m n : Nat} (hn : 1 ≤ n) (hnm : n ≤ m) :
    Reads (fun b => readInto (Nat.log2 n) 1 b >>= fun p => if m < p.1 then .error (.bad p.1) else .ok p)
      (binMsb (Nat.log2 n) n) n :=
  fun t => (bind_of_ok (readInto_reads_log2 hn t) _).trans (if_neg (not_lt.mpr hnm))

theorem decGIota_reads {m n : Nat} (hm : 3 ≤ m) (hn : 1 ≤ n) (hnm : n ≤ m) (hw : Nat.log2 n < 2 ^ iotaWidth m) :
    Reads (decGIota m) (encGIota m n) n :=
  (readPrefix_reads (one_le_iotaWidth hm) hw).bind ((boundedValue_reads hn hnm).check (not_lt.mpr (log2_mono hnm)))

theorem decDIota_reads {m n : Nat} (hm : 3 ≤ m) (hn : 1 ≤ n) (hnm : n ≤ m) : Reads (decDIota m) (encDIota m n) n := by
  have hlen : bitLen n ≤ bitLen m := Nat.succ_le_succ (log2_mono hnm)
  unfold encDIota
  rw [List.append_assoc]
  refine (readPrefix_reads (one_le_iotaWidth hm) (log2_bitLen_lt hm hnm)).bind
    (Reads.check (not_lt.mpr (log2_mono hlen)) ?_)
  exact (readInto_reads_log2 (Nat.succ_pos _)).bind ((boundedValue_reads hn hnm).check (not_lt.mpr hlen))

/-! All codecs. -/

/-- Only unary has a codeword for 0. -/
theorem one_le_of_inDomain {c : Codec} {m : Nat} {v : Int} (hc : c ≠ .unary) (h : inDomain c m v = true) : 1 ≤ v := by
  cases c with
  | unary => exact absurd rfl hc
  | giota | diota => exact (of_decide_eq_true h).1
  | _ => exact of_decide_eq_true h

/-- Every codec reads its codewords back (41_universal_codes.md R127). -/
theorem decCode_reads {c : Codec} {m n : Nat} (hm : isIota c = true → 3 ≤ m) (hn : inDomain c m n = true) :
    Reads (decCode c m) (encCode c m n) n := by
  have hpos (hc : c ≠ .unary) : 1 ≤ n := by exact_mod_cast one_le_of_inDomain hc hn
  cases c with
  | unary => exact decUnary_reads n
  | gamma => exact decGamma_reads (hpos nofun)
  | delta => exact decDelta_reads (hpos nofun)
  | fib | trib | enb4 | enb5 | enb6 | enb7 | enb8 => exact decEnb_reads (by decide) (hpos nofun)
  | gfib => exact decGFib_reads (hpos nofun)
  | dfib => exact decDFib_reads (hpos nofun)
  | giota =>
    obtain ⟨-, hnm, hw⟩ : 1 ≤ (n : Int) ∧ (n : Int) ≤ m ∧ Nat.log2 n < 2 ^ iotaWidth m := of_decide_eq_true hn
    exact decGIota_reads (hm rfl) (hpos nofun) (by omega) hw
  | diota =>
    obtain ⟨-, hnm⟩ : 1 ≤ (n : Int) ∧ (n : Int) ≤ m := of_decide_eq_true hn
    exact decDIota_reads (hm rfl) (hpos nofun) (by omega)

/-- Codewords are read one after the other. -/
theorem readMany_reads {c : Codec} {m : Nat} (hm : isIota c = true → 3 ≤ m) {ns : List Nat}
    (hns : ∀ n ∈ ns, inDomain c m (n : Int) = true) : Reads (readMany c m ns.length) (ns.flatMap (encCode c m)) ns := by
  induction ns with
  | nil => exact reads_pure []
  | cons n ns ih =>
    obtain ⟨hn, hns⟩ := List.forall_mem_cons.mp hns
    have hrest := (ih hns).bind (k := fun p => pure (n :: p.1, p.2)) (reads_pure (n :: ns))
    rw [List.append_nil] at hrest
    exact (decCode_reads hm hn).bind hrest

/-- Settles O25: one codeword by codec, a sequence by induction. -/
theorem codecRoundTrip : Obligations.CodecRoundTrip :=
  fun _ _ hm => ⟨fun _ t hn => decCode_reads hm hn t, fun _ t hns => readMany_reads hm hns t⟩

/-! Codewords cut short. -/

theorem decCode_nil (c : Codec) (m : Nat) : decCode c m [] = .error .cleanEos := by
  cases c <;> rfl

/-- Every codec's reading procedure goes on alike with more bits, and stops cleanly only at no bit at all. -/
theorem decCode_incremental (c : Codec) (m : Nat) : Incremental true (decCode c m) := by
  have hunary : Incremental true decUnary := decUnaryFrom_incremental 0
  have hgamma : Incremental true decGamma := hunary.bind fun p => readInto_incremental p 1
  cases c with
  | unary => exact hunary
  | gamma => exact hgamma
  | delta => exact hgamma.bind fun l => readInto_incremental (l - 1) 1
  | fib | trib | enb4 | enb5 | enb6 | enb7 | enb8 => exact decEnb_incremental _
  | gfib => exact (decEnb_incremental 2).bind fun f => readInto_incremental (f - 1) 1
  | dfib =>
    exact (decEnb_incremental 2).bind fun f =>
      (readInto_incremental (f - 1) 1).bind fun l => readInto_incremental (l - 1) 1
  | giota =>
    exact (readPrefix_incremental _).bind fun p => ((readInto_incremental p 1).bind fun v =>
      (ok_incremental false v).check).check
  | diota =>
    exact (readPrefix_incremental _).bind fun q => ((readInto_incremental q 1).bind fun l =>
      ((readInto_incremental (l - 1) 1).bind fun v => (ok_incremental false v).check).check).check

/-- Some but not all bits of a codeword, from its first on, are a truncated codeword (41_universal_codes.md R125). -/
theorem decCode_cut {c : Codec} {m n : Nat} {b cut : Bits} (hm : isIota c = true → 3 ≤ m)
    (hn : inDomain c m n = true) (hb : b ≠ []) (hcut : cut ≠ []) (h : encCode c m n = b ++ cut) :
    decCode c m b = .error .cut := by
  have hinc := decCode_incremental c m
  have hwhole : decCode c m (b ++ cut) = .ok (n, []) := by
    rw [← h, ← List.append_nil (encCode c m n)]
    exact decCode_reads hm hn []
  cases hread : decCode c m b with
  | ok p =>
    obtain ⟨-, hnil⟩ : p.1 = n ∧ p.2 ++ cut = [] := by simpa using (hinc.ok cut hread).symm.trans hwhole
    exact absurd (List.append_eq_nil_iff.mp hnil).2 hcut
  | error st =>
    cases st with
    | cleanEos => exact absurd (hinc.clean hread).2 hb
    | cut => rfl
    | bad v => exact nomatch (hinc.bad cut hread).symm.trans hwhole

/-- No codeword is empty: nothing is read of no bits. -/
theorem encCode_ne_nil {c : Codec} {m n : Nat} (hm : isIota c = true → 3 ≤ m) (hn : inDomain c m n = true) :
    encCode c m n ≠ [] := by
  intro h
  have hread := decCode_reads hm hn []
  rw [h, List.append_nil, decCode_nil] at hread
  cases hread

end Sys2Proof.Machine
end

section
/-! The UC commands complete with every codec and domain, and how UC.DEC ends on what it finds in BIN
(41_universal_codes.md R120..R126). -/

namespace Sys2Proof.Machine

/-! Adapted values. -/

theorem adaptOut1_adaptIn1 (c : Codec) {a : Int} (ha : 0 ≤ a) : adaptOut1 c (adaptIn1 c a).toNat = a := by
  unfold adaptOut1 adaptIn1
  split <;> omega

theorem zigZag_nonneg (a : Int) : 0 ≤ zigZag a := by
  unfold zigZag
  split <;> omega

theorem unZigZag_zigZag (a : Int) : unZigZag (zigZag a) = a := by
  unfold unZigZag zigZag
  split <;> split <;> omega

/-- The adaptation of a value that the domain allows is undone after decoding (41_universal_codes.md R124). -/
theorem adaptOut_adaptIn {d : Dom} {a : Int} (ha : d ≠ .signed → 0 ≤ a) (c : Codec) :
    adaptOut d c (adaptIn d c a).toNat = a := by
  cases d with
  | native => exact Int.toNat_of_nonneg (ha nofun)
  | unsigned => exact adaptOut1_adaptIn1 c (ha nofun)
  | signed => exact (congrArg unZigZag (adaptOut1_adaptIn1 c (zigZag_nonneg a))).trans (unZigZag_zigZag a)

theorem inDomain_nonneg {c : Codec} {m : Nat} {v : Int} (h : inDomain c m v = true) : 0 ≤ v := by
  by_cases hc : c = .unary
  · subst hc
    exact of_decide_eq_true h
  · exact Int.le_of_lt (one_le_of_inDomain hc h)

/-! Values that have a codeword. -/

section
variable {c : Codec} {m : Nat} {d : Dom} {a : Int} (h : HasCodeword c m d a)
include h

theorem HasCodeword.bound : isIota c = true → 3 ≤ m := h.1

theorem HasCodeword.sign : d ≠ .signed → 0 ≤ a := h.2.1

theorem HasCodeword.inDomain_toNat : inDomain c m ((adaptIn d c a).toNat : Int) = true := by
  obtain ⟨-, -, hin⟩ := h
  rwa [Int.toNat_of_nonneg (inDomain_nonneg hin)]

theorem HasCodeword.reads : Reads (decCode c m) (codeword c m d a) (adaptIn d c a).toNat :=
  decCode_reads h.bound h.inDomain_toNat

theorem HasCodeword.adaptOut_eq : adaptOut d c (adaptIn d c a).toNat = a := adaptOut_adaptIn h.sign c

theorem HasCodeword.length_pos : 1 ≤ (codeword c m d a).length :=
  List.length_pos_of_ne_nil (encCode_ne_nil h.bound h.inDomain_toNat)

theorem HasCodeword.encodeOne_ok (info : Int) {b : Bits} (hfit : b.length + (codeword c m d a).length ≤ Config.bitCap) :
    encodeOne c m d a info b = .ok (b ++ codeword c m d a) := by
  obtain ⟨-, hsign, hin⟩ := h
  exact (encodeOne_inside info b (Decidable.or_iff_not_imp_left.mpr hsign) hin).trans (bitsWrite_ok _ _ _ hfit)

end

/-! UC.ENC. -/

theorem endCommand_of_ok {s t : State} {r : Except Err State} (h : r = .ok t) :
    endCommand s r = .next (complete t) := congrArg (endCommand s) h

/-- Settles O26: the checks pass and the codeword is written whole. -/
theorem encCompletes : Obligations.EncCompletes := by
  intro c d s h hfit
  have hwrite := h.encodeOne_ok (zext s.arg0) hfit
  rw [exec_encInstr]
  refine endCommand_of_ok ((bind_of_ok (requireBound_pass h.bound) _).trans ((bind_of_ok hwrite _).trans ?_))
  rw [codeLen_eq]
  rfl

/-! UC.DEC. -/

theorem fitsRes_iff (d : Dom) (v : Int) :
    fitsRes d v = true ↔ (d = .signed ∧ -2 ^ 31 ≤ v ∧ v < 2 ^ 31) ∨ (d ≠ .signed ∧ 0 ≤ v ∧ v < 2 ^ 32) := by
  cases d <;> simp [fitsRes]

/-- What UC.DEC makes of what it has read. -/
theorem ucDec_of_read {c : Codec} {d : Dom} {s : State} {r : Nat} {rest : Bits}
    (hm : isIota c = true → 3 ≤ s.arg1.toNat) (hread : decCode c s.arg1.toNat s.bin = .ok (r, rest)) :
    ucDec c d s =
      if fitsRes d (adaptOut d c r) = true then
        .ok { s with
          res0 := pattern (adaptOut d c r)
          res1 := BitVec.ofNat 32 (s.bin.length - rest.length)
          bin := rest }
      else .error (parseErr 0x11#8 (.val (adaptOut d c r))) := by
  refine (bind_of_ok (requireBound_pass hm) _).trans ?_
  rw [show decCode c (boundArg s) s.bin = _ from hread]
  by_cases hfits : fitsRes d (adaptOut d c r) = true
  · exact (bind_of_ok (require_pos hfits _) _).trans (if_pos hfits).symm
  · exact (bind_of_error (require_neg hfits _) _).trans (if_neg hfits).symm

/-- Where nothing is read, UC.DEC raises the error of the stop. -/
theorem exec_decInstr_of_stop {c : Codec} (d : Dom) {s : State} {st : Stop} (hm : isIota c = true → 3 ≤ s.arg1.toNat)
    (hread : decCode c s.arg1.toNat s.bin = .error st) :
    exec (decInstr c d) s = .next (raiseError (stopErr (exhaustionErr 0x12#8 (.val 0)) s.bin st) s) := by
  rw [exec_decInstr]
  refine endCommand_of_error ((bind_of_ok (requireBound_pass hm) _).trans ?_)
  rw [show decCode c (boundArg s) s.bin = _ from hread]

/-- Settles O28: by what the codec's reading procedure finds in BIN. -/
theorem decResults : Obligations.DecResults := by
  refine ⟨fun c d s n rest hm hn hbin => ?_, fun c d s hm => ⟨fun hnil => ?_, fun n cut hn hne hcut henc => ?_⟩⟩
  · have hread : decCode c s.arg1.toNat s.bin = .ok (n, rest) := hbin ▸ decCode_reads hm hn rest
    have hlen : s.bin.length - rest.length = (encCode c s.arg1.toNat n).length := by
      rw [hbin, List.length_append, Nat.add_sub_cancel]
    rw [exec_decInstr, ucDec_of_read hm hread, hlen]
    simp only [fitsRes_iff]
    split
    · rfl
    · rfl
  · refine exec_decInstr_of_stop (st := .cleanEos) d hm ?_
    rw [hnil]
    exact decCode_nil c _
  · exact exec_decInstr_of_stop (st := .cut) d hm (decCode_cut hm hn hne hcut henc)

/-! UC.ENCSEQ. -/

/-- Every element is encoded to the end of what was written before it. -/
theorem encodeAll_ok {c : Codec} {m : Nat} {d : Dom} {vs : List Int} {b : Bits}
    (h : ∀ e ∈ vs, HasCodeword c m d e) (hfit : b.length + (codewords c m d vs).length ≤ Config.bitCap) :
    vs.foldlM (fun b e => encodeOne c m d e e b) b = .ok (b ++ codewords c m d vs) := by
  induction vs generalizing b with
  | nil => exact congrArg Except.ok (List.append_nil b).symm
  | cons v vs ih =>
    obtain ⟨hv, h⟩ := List.forall_mem_cons.mp h
    rw [codewords_cons, List.length_append] at hfit
    rw [List.foldlM_cons, bind_of_ok (hv.encodeOne_ok v (by omega)), codewords_cons, ← List.append_assoc]
    exact ih h (by rw [List.length_append]; omega)

theorem exec_encseqInstr_ok {c : Codec} {d : Dom} {s : State} (hm : isIota c = true → 3 ≤ s.arg1.toNat)
    (h : ∀ e ∈ s.sin, HasCodeword c s.arg1.toNat d e)
    (hfit : s.bout.length + (codewords c s.arg1.toNat d s.sin).length ≤ Config.bitCap) :
    exec (encseqInstr c d) s = .next (complete { s with
      bout := s.bout ++ codewords c s.arg1.toNat d s.sin
      sin := []
      res0 := BitVec.ofNat 32 s.sin.length }) := by
  rw [exec_encseqInstr]
  exact endCommand_of_ok ((bind_of_ok (requireBound_pass hm) _).trans (bind_of_ok (encodeAll_ok h hfit) _))

/-! UC.DECSEQ. -/

/-- SeqPush of an element that fits. -/
theorem seqPush_ok {q : List Int} {v : Int} (hq : q.length < Config.seqCap) (hv : inElemRange v) :
    seqPush q v = .ok (q ++ [v]) := (if_neg hq.ne).trans (if_pos hv)

/-- The elements of a sequence are at most as many as the bits of its codewords. -/
theorem length_le_codewords {c : Codec} {m : Nat} {d : Dom} {vs : List Int} (h : ∀ e ∈ vs, HasCodeword c m d e) :
    vs.length ≤ (codewords c m d vs).length := by
  induction vs with
  | nil => exact Nat.zero_le _
  | cons v vs ih =>
    obtain ⟨hv, h⟩ := List.forall_mem_cons.mp h
    have hpos := hv.length_pos
    have hrest := ih h
    rw [codewords_cons, List.length_append, List.length_cons]
    omega

/-- The loop takes one codeword and pushes its value. -/
theorem decSeqFrom_step {c : Codec} {m : Nat} {d : Dom} {v : Int} {q : List Int} (h : HasCodeword c m d v)
    (hq : q.length < Config.seqCap) (hv : inElemRange v) (fuel : Nat) (rest : Bits) (cnt : Nat) :
    decSeqFrom c m d (fuel + 1) (codeword c m d v ++ rest) q cnt
      = decSeqFrom c m d fuel rest (q ++ [v]) (cnt + 1) := by
  rw [decSeqFrom, h.reads rest]
  simp only [h.adaptOut_eq]
  exact (bind_of_ok (require_pos (p := -2 ^ 31 ≤ v ∧ v < 2 ^ 31) hv _) _).trans (bind_of_ok (seqPush_ok hq hv) _)

/-- The loop reads the codewords of a sequence to their end. -/
theorem decSeqFrom_codewords {c : Codec} {m : Nat} {d : Dom} {vs : List Int} {fuel cnt : Nat} {q : List Int}
    (h : ∀ e ∈ vs, HasCodeword c m d e) (hfuel : vs.length ≤ fuel) (hroom : q.length + vs.length ≤ Config.seqCap)
    (hrange : ∀ e ∈ vs, inElemRange e) :
    decSeqFrom c m d fuel (codewords c m d vs) q cnt = .ok (q ++ vs, cnt + vs.length) := by
  induction vs generalizing fuel q cnt with
  | nil =>
    rw [decSeqFrom, show decCode c m (codewords c m d []) = _ from decCode_nil c m]
    simp
  | cons v vs ih =>
    obtain ⟨hv, h⟩ := List.forall_mem_cons.mp h
    obtain ⟨hrv, hrange⟩ := List.forall_mem_cons.mp hrange
    rw [List.length_cons] at hfuel hroom
    obtain ⟨fuel, rfl⟩ : ∃ k, fuel = k + 1 := ⟨fuel - 1, by omega⟩
    rw [codewords_cons, decSeqFrom_step hv (by omega) hrv,
      ih h (by omega) (by rw [List.length_append, List.length_singleton]; omega) hrange]
    simp only [List.append_assoc, List.singleton_append, List.length_cons, Nat.add_assoc, Nat.add_comm 1]

theorem exec_decseqInstr_ok {c : Codec} {d : Dom} {s : State} {vs : List Int}
    (hm : isIota c = true → 3 ≤ s.arg1.toNat) (h : ∀ e ∈ vs, HasCodeword c s.arg1.toNat d e)
    (hbin : s.bin = codewords c s.arg1.toNat d vs) (hpush : Pushable s vs) :
    exec (decseqInstr c d) s = .next (complete { s with
      bin := []
      sout := s.sout ++ vs
      res0 := BitVec.ofNat 32 vs.length }) := by
  obtain ⟨hroom, hrange⟩ := hpush
  have hloop : decSeqFrom c (boundArg s) d s.bin.length s.bin s.sout 0 = .ok (s.sout ++ vs, 0 + vs.length) := by
    rw [hbin]
    exact decSeqFrom_codewords h (length_le_codewords h) hroom hrange
  rw [Nat.zero_add] at hloop
  rw [exec_decseqInstr]
  exact endCommand_of_ok ((bind_of_ok (requireBound_pass hm) _).trans (bind_of_ok hloop _))

/-- Settles O29: the loops over the elements and over the codewords, each by induction on the sequence. -/
theorem sequenceCodecsComplete : Obligations.SequenceCodecsComplete :=
  fun _ _ _ hm => ⟨exec_encseqInstr_ok hm, fun _ h hbin hpush => exec_decseqInstr_ok hm h hbin hpush⟩

end Sys2Proof.Machine
end

section
/-! XF.HAVENE and XF.HAVEND: the items of a haven sequence one after the other, each with the bucket size that the item
before it gives, and the items XF.HAVEND refuses (42_transforms.md R185..R188). -/

namespace Sys2Proof.Machine

/-! Haven sequences, item by item. -/

section
variable (c : Codec) (m bfn hb0 : Nat) (ns : List Nat) (n : Nat)

/-- The bits of one item with bucket size hb (42_transforms.md R185). -/
def havenWord (hb : Nat) : Bits := codeword c m .unsigned ((n / 2 ^ hb : Nat) : Int) ++ binMsb hb n

/-- A bucket size depends on the items before its own only. -/
theorem bucketAt_append {i : Nat} (hi : i ≤ ns.length) (more : List Nat) :
    bucketAt bfn hb0 (ns ++ more) i = bucketAt bfn hb0 ns i := by
  unfold bucketAt
  split
  · rfl
  · rw [List.getD_append _ _ _ _ (by omega)]

theorem bucketAt_snoc :
    bucketAt bfn hb0 (ns ++ [n]) (ns ++ [n]).length = havenBucket bfn hb0 n := by
  simp [bucketAt]

theorem havenBits_snoc :
    havenBits c m bfn hb0 (ns ++ [n])
      = havenBits c m bfn hb0 ns ++ havenWord c m n (bucketAt bfn hb0 ns ns.length) := by
  have hbefore : ∀ i ∈ List.range ns.length, havenItem c m bfn hb0 (ns ++ [n]) i = havenItem c m bfn hb0 ns i := by
    intro i hi
    have hi := List.mem_range.mp hi
    rw [havenItem, havenItem, bucketAt_append _ _ _ hi.le, List.getD_append _ _ _ _ hi]
  have hlast : havenItem c m bfn hb0 (ns ++ [n]) ns.length = havenWord c m n (bucketAt bfn hb0 ns ns.length) := by
    rw [havenItem, bucketAt_append _ _ _ le_rfl]
    simp [havenWord]
  rw [havenBits, List.length_append, List.length_singleton, List.range_succ, List.flatMap_append,
    List.flatMap_congr hbefore, List.flatMap_singleton, hlast]
  rfl

variable {c m bfn hb0 ns n}

theorem HavenOk.of_snoc (h : HavenOk c m bfn hb0 (ns ++ [n])) :
    HavenOk c m bfn hb0 ns
      ∧ HasCodeword c m .unsigned ((n / 2 ^ bucketAt bfn hb0 ns ns.length : Nat) : Int) := by
  obtain ⟨hhb, hbfn, hm, hitems⟩ := h
  refine ⟨⟨hhb, hbfn, hm, fun i hi => ?_⟩, ?_⟩
  · have hitem := hitems i (by rw [List.length_append]; omega)
    rwa [bucketAt_append _ _ _ hi.le, List.getD_append _ _ _ _ hi] at hitem
  · have hitem := hitems ns.length (by simp)
    rw [bucketAt_append _ _ _ le_rfl] at hitem
    simpa using hitem

/-- The items of a sequence are at most as many as its bits. -/
theorem HavenOk.length_le (h : HavenOk c m bfn hb0 ns) : ns.length ≤ (havenBits c m bfn hb0 ns).length := by
  induction ns using List.reverseRecOn with
  | nil => exact Nat.zero_le _
  | append_singleton ns n ih =>
    obtain ⟨hns, hn⟩ := h.of_snoc
    have hpos := hn.length_pos
    have hrest := ih hns
    rw [havenBits_snoc, List.length_append, List.length_append, List.length_singleton, havenWord, List.length_append]
    omega

end

/-! XF.HAVENE. -/

theorem havenEncFrom_step {c : Codec} {m bfn hb0 hb n : Nat} {b : Bits} (rest : List Int)
    (h : HasCodeword c m .unsigned ((n / 2 ^ hb : Nat) : Int))
    (hfit : b.length + (havenWord c m n hb).length ≤ Config.bitCap) :
    havenEncFrom c m bfn hb0 hb (Int.ofNat n :: rest) b
      = havenEncFrom c m bfn hb0 (havenBucket bfn hb0 n) rest (b ++ havenWord c m n hb) := by
  obtain ⟨-, -, hin⟩ := h
  rw [havenWord, List.length_append, binMsb_length] at hfit
  have hshift : (Int.ofNat n).toNat >>> hb = n / 2 ^ hb := Nat.shiftRight_eq_div_pow n hb
  simp only [havenEncFrom, hshift]
  refine (bind_of_ok (require_pos (Int.natCast_nonneg n) _) _).trans ((bind_of_ok (require_pos hin _) _).trans ?_)
  rw [codeLen_eq]
  exact bind_of_ok (bitsWrite_ok _ _ _ hfit) _

/-- The items are written one after the other; the next one has the bucket size that follows them. -/
theorem havenEncFrom_items {c : Codec} {m bfn hb0 : Nat} {ns : List Nat} {b : Bits} (rest : List Int)
    (h : HavenOk c m bfn hb0 ns) (hfit : b.length + (havenBits c m bfn hb0 ns).length ≤ Config.bitCap) :
    havenEncFrom c m bfn hb0 hb0 (ns.map Int.ofNat ++ rest) b
      = havenEncFrom c m bfn hb0 (bucketAt bfn hb0 ns ns.length) rest (b ++ havenBits c m bfn hb0 ns) := by
  induction ns using List.reverseRecOn generalizing rest with
  | nil => simp [havenBits, bucketAt]
  | append_singleton ns n ih =>
    obtain ⟨hns, hn⟩ := h.of_snoc
    rw [havenBits_snoc, List.length_append] at hfit
    rw [List.map_append, List.append_assoc, ih _ hns (by omega)]
    refine (havenEncFrom_step rest hn (by rw [List.length_append]; omega)).trans ?_
    rw [havenBits_snoc, bucketAt_snoc, List.append_assoc]

theorem exec_haveneInstr_ok {c : Codec} {s : State} {ns : List Nat}
    (h : HavenOk c s.arg1.toNat (bfnField s.cfgHaven) (hb0Field s.cfgHaven) ns) (hsin : s.sin = ns.map Int.ofNat)
    (hfit : s.bout.length + (havenBits c s.arg1.toNat (bfnField s.cfgHaven) (hb0Field s.cfgHaven) ns).length
      ≤ Config.bitCap) :
    exec (haveneInstr c) s = .next (complete { s with
      bout := s.bout ++ havenBits c s.arg1.toNat (bfnField s.cfgHaven) (hb0Field s.cfgHaven) ns
      sin := []
      res0 := BitVec.ofNat 32 ns.length }) := by
  have hloop := havenEncFrom_items [] h hfit
  obtain ⟨hhb, hbfn, hm, -⟩ := h
  rw [List.append_nil, ← hsin] at hloop
  have hlen : s.sin.length = ns.length := by rw [hsin, List.length_map]
  rw [exec_haveneInstr, ← hlen]
  exact endCommand_of_ok ((bind_of_ok (requireHaven_pass hhb hbfn) _).trans
    ((bind_of_ok (requireBound_pass hm) _).trans (bind_of_ok hloop _)))

/-! XF.HAVEND: one item. -/

section
variable {c : Codec} {m bfn hb0 hb hi : Nat} (h : HasCodeword c m .unsigned hi) (fuel : Nat) (rest : Bits)
  (q : List Int) (cnt : Nat)
include h

theorem havenDecFrom_of_large (hhi : 2 ^ 31 ≤ hi) :
    havenDecFrom c m bfn hb0 hb fuel (codeword c m .unsigned hi ++ rest) q cnt
      = .error (parseErr 0x11#8 (.val hi)) := by
  have hvalue : adaptOut1 c _ = (hi : Int) := h.adaptOut_eq
  rw [havenDecFrom, h.reads rest]
  simp only [hvalue]
  exact bind_of_error (require_neg (by omega) _) _

theorem havenDecFrom_of_short (hhi : hi < 2 ^ 31) (hrest : rest.length < hb) :
    havenDecFrom c m bfn hb0 hb fuel (codeword c m .unsigned hi ++ rest) q cnt
      = .error (parseErr 0x10#8 (.val cnt)) := by
  have hvalue : adaptOut1 c _ = (hi : Int) := h.adaptOut_eq
  rw [havenDecFrom, h.reads rest]
  simp only [hvalue, readInto_short 0 hrest]
  exact bind_of_ok (require_pos (by omega) _) _

/-- A whole item is pushed, and the loop goes on with the bucket size it gives. -/
theorem havenDecFrom_of_push {lo : Nat} {q' : List Int} (hhi : hi < 2 ^ 31)
    (hpush : seqPush q ((hi * 2 ^ hb + lo % 2 ^ hb : Nat) : Int) = .ok q') :
    havenDecFrom c m bfn hb0 hb (fuel + 1) (codeword c m .unsigned hi ++ (binMsb hb lo ++ rest)) q cnt
      = havenDecFrom c m bfn hb0 (havenBucket bfn hb0 (hi * 2 ^ hb + lo % 2 ^ hb)) fuel rest q' (cnt + 1) := by
  have hvalue : adaptOut1 c _ = (hi : Int) := h.adaptOut_eq
  rw [havenDecFrom, h.reads _]
  simp only [hvalue, readInto_binMsb, Nat.zero_mul, Nat.zero_add]
  exact (bind_of_ok (require_pos (by omega) _) _).trans (bind_of_ok hpush _)

/-- An item that SOUT refuses. -/
theorem havenDecFrom_of_refused {lo : Nat} {e : Err} (hhi : hi < 2 ^ 31)
    (hpush : seqPush q ((hi * 2 ^ hb + lo % 2 ^ hb : Nat) : Int) = .error e) :
    havenDecFrom c m bfn hb0 hb fuel (codeword c m .unsigned hi ++ (binMsb hb lo ++ rest)) q cnt = .error e := by
  have hvalue : adaptOut1 c _ = (hi : Int) := h.adaptOut_eq
  rw [havenDecFrom, h.reads _]
  simp only [hvalue, readInto_binMsb, Nat.zero_mul, Nat.zero_add]
  exact (bind_of_ok (require_pos (by omega) _) _).trans (bind_of_error hpush _)

end

theorem havenDecFrom_step {c : Codec} {m bfn hb0 hb n : Nat} {q : List Int}
    (h : HasCodeword c m .unsigned ((n / 2 ^ hb : Nat) : Int)) (hq : q.length < Config.seqCap)
    (hn : inElemRange (Int.ofNat n)) (fuel : Nat) (rest : Bits) (cnt : Nat) :
    havenDecFrom c m bfn hb0 hb (fuel + 1) (havenWord c m n hb ++ rest) q cnt
      = havenDecFrom c m bfn hb0 (havenBucket bfn hb0 n) fuel rest (q ++ [Int.ofNat n]) (cnt + 1) := by
  have hsum : n / 2 ^ hb * 2 ^ hb + n % 2 ^ hb = n := Nat.div_add_mod' n (2 ^ hb)
  have hhi : n / 2 ^ hb < 2 ^ 31 := (Nat.div_le_self _ _).trans_lt (Int.ofNat_lt.mp hn.2)
  have hpush : seqPush q ((n / 2 ^ hb * 2 ^ hb + n % 2 ^ hb : Nat) : Int) = .ok (q ++ [Int.ofNat n]) := by
    rw [hsum]
    exact seqPush_ok hq hn
  have hstep := havenDecFrom_of_push (bfn := bfn) (hb0 := hb0) h fuel rest q cnt hhi hpush
  rwa [hsum, ← List.append_assoc] at hstep

/-! XF.HAVEND: the loop. -/

/-- The items are read one after the other; the next one has the bucket size that follows them. -/
theorem havenDecFrom_items {c : Codec} {m bfn hb0 : Nat} {ns : List Nat} {q : List Int} (fuel : Nat) (rest : Bits)
    (h : HavenOk c m bfn hb0 ns) (hroom : q.length + ns.length ≤ Config.seqCap)
    (hrange : ∀ e ∈ ns.map Int.ofNat, inElemRange e) :
    havenDecFrom c m bfn hb0 hb0 (fuel + ns.length) (havenBits c m bfn hb0 ns ++ rest) q 0
      = havenDecFrom c m bfn hb0 (bucketAt bfn hb0 ns ns.length) fuel rest (q ++ ns.map Int.ofNat) ns.length := by
  induction ns using List.reverseRecOn generalizing fuel rest with
  | nil => simp [havenBits, bucketAt]
  | append_singleton ns n ih =>
    obtain ⟨hns, hn⟩ := h.of_snoc
    rw [List.length_append, List.length_singleton] at hroom
    rw [List.map_append, List.forall_mem_append] at hrange
    obtain ⟨hrns, hrn⟩ := hrange
    have hbefore := ih (fuel + 1) (havenWord c m n (bucketAt bfn hb0 ns ns.length) ++ rest) hns (by omega) hrns
    have hlast := havenDecFrom_step (bfn := bfn) (hb0 := hb0) (q := q ++ ns.map Int.ofNat) hn
      (by rw [List.length_append, List.length_map]; omega) (hrn _ (List.mem_singleton_self _)) fuel rest ns.length
    rw [havenBits_snoc, bucketAt_snoc, List.append_assoc, List.map_append, ← List.append_assoc q, List.length_append,
      List.length_singleton, show fuel + (ns.length + 1) = fuel + 1 + ns.length by omega, hbefore]
    exact hlast

/-! XF.HAVEND: the command. -/

section
variable {c : Codec} {s : State} {ns : List Nat}
  (h : HavenOk c s.arg1.toNat (bfnField s.cfgHaven) (hb0Field s.cfgHaven) ns)
  (hpush : Pushable s (ns.map Int.ofNat))
include h hpush

/-- XF.HAVEND behind its checks and the items that pass. -/
theorem havenDec_items {rest : Bits}
    (hbin : s.bin = havenBits c s.arg1.toNat (bfnField s.cfgHaven) (hb0Field s.cfgHaven) ns ++ rest) :
    ∃ fuel, havenDec c s = (do
      let (sout, cnt) ← havenDecFrom c s.arg1.toNat (bfnField s.cfgHaven) (hb0Field s.cfgHaven)
        (bucketAt (bfnField s.cfgHaven) (hb0Field s.cfgHaven) ns ns.length) fuel rest (s.sout ++ ns.map Int.ofNat)
        ns.length
      pure { s with bin := [], sout := sout, res0 := BitVec.ofNat 32 cnt }) := by
  obtain ⟨hroom, hrange⟩ := hpush
  rw [List.length_map] at hroom
  have hlen : ns.length ≤ s.bin.length := by
    rw [hbin, List.length_append]
    exact h.length_le.trans (Nat.le_add_right _ _)
  have hloop := havenDecFrom_items (s.bin.length - ns.length) rest h hroom hrange
  rw [Nat.sub_add_cancel hlen, ← hbin] at hloop
  obtain ⟨hhb, hbfn, hm, -⟩ := h
  refine ⟨s.bin.length - ns.length, ?_⟩
  rw [← hloop]
  exact (bind_of_ok (requireHaven_pass hhb hbfn) _).trans (bind_of_ok (requireBound_pass hm) _)

theorem exec_havendInstr_ok
    (hbin : s.bin = havenBits c s.arg1.toNat (bfnField s.cfgHaven) (hb0Field s.cfgHaven) ns) :
    exec (havendInstr c) s = .next (complete { s with
      bin := []
      sout := s.sout ++ ns.map Int.ofNat
      res0 := BitVec.ofNat 32 ns.length }) := by
  obtain ⟨fuel, hdec⟩ := havenDec_items (rest := []) h hpush (by rw [hbin, List.append_nil])
  rw [exec_havendInstr, hdec, havenDecFrom, decCode_nil]
  rfl

/-- XF.HAVEND fails as its loop does after the items that pass. -/
theorem exec_havendInstr_refused {rest : Bits} {e : Err}
    (hbin : s.bin = havenBits c s.arg1.toNat (bfnField s.cfgHaven) (hb0Field s.cfgHaven) ns ++ rest)
    (hloop : ∀ fuel, havenDecFrom c s.arg1.toNat (bfnField s.cfgHaven) (hb0Field s.cfgHaven)
      (bucketAt (bfnField s.cfgHaven) (hb0Field s.cfgHaven) ns ns.length) fuel rest (s.sout ++ ns.map Int.ofNat)
      ns.length = .error e) :
    exec (havendInstr c) s = .next (raiseError e s) := by
  obtain ⟨fuel, hdec⟩ := havenDec_items h hpush hbin
  rw [exec_havendInstr, hdec]
  exact endCommand_of_error (bind_of_error (hloop fuel) _)

end

/-- SeqPush of an element out of the range, where there is room. -/
theorem seqPush_outside {q : List Int} {v : Int} (hq : q.length < Config.seqCap) (hv : ¬inElemRange v) :
    seqPush q v = .error (domainErr 0x62#8 (.val v)) := (if_neg hq.ne).trans (if_neg hv)

/-- Settles O32: the loops of XF.HAVENE and XF.HAVEND pass the items one by one; the item after them decides the
refusal. -/
theorem havenResults : Obligations.HavenResults := by
  intro c s ns h bits hb
  refine ⟨fun hsin hfit => exec_haveneInstr_ok h hsin hfit, fun hbin hpush => exec_havendInstr_ok h hpush hbin,
    fun hi rest hhi hpush hbin => ?_⟩
  rw [List.append_assoc] at hbin
  refine ⟨fun hlarge => ?_, fun hfits hshort => ?_, fun lo more hfits hrest hlo hlarge hroom => ?_⟩
  · exact exec_havendInstr_refused h hpush hbin fun fuel => havenDecFrom_of_large hhi fuel _ _ _ hlarge
  · exact exec_havendInstr_refused h hpush hbin fun fuel => havenDecFrom_of_short hhi fuel _ _ _ hfits hshort
  · have hrefused : seqPush (s.sout ++ ns.map Int.ofNat) ((hi * 2 ^ hb + lo % 2 ^ hb : Nat) : Int)
        = .error (domainErr 0x62#8 (.val (hi * 2 ^ hb + lo : Nat))) := by
      rw [Nat.mod_eq_of_lt hlo]
      refine seqPush_outside (by rw [List.length_append, List.length_map]; exact hroom) (fun hrange => ?_)
      exact absurd hrange.2 (not_lt.mpr (Int.ofNat_le.mpr hlarge))
    subst hrest
    exact exec_havendInstr_refused h hpush hbin fun fuel => havenDecFrom_of_refused hhi fuel _ _ _ hfits hrefused

end Sys2Proof.Machine
end

section
/-! The transforms that push a whole result, or one element after the other behind a check: delta, zig-zag, focused
zig-zag, floor, median, palette, and the tracked sum (42_transforms.md R170..R183, R196..R201). -/

namespace Sys2Proof.Machine

/-! Ends and pushes that succeed. -/

/-- A sequence command whose function of SIN and SOUT appends ys ends with SIN empty and ys on SOUT. -/
theorem xfSeq_completes {f : List Int → List Int → Except Err (List Int)} {s : State} {ys : List Int}
    (h : f s.sin s.sout = .ok (s.sout ++ ys)) : endCommand s (xfSeq f s) = .next (afterXf s ys) :=
  endCommand_of_ok (bind_of_ok h _)

theorem Pushable.seqPushAll_eq {s : State} {ys : List Int} (h : Pushable s ys) :
    seqPushAll s.sout ys = .ok (s.sout ++ ys) := seqPushAll_ok ys s.sout h.1 h.2

/-- A push behind a check of the element, over a list whose elements all pass, pushes the list's image. -/
theorem checkedPushes_pass {p : Int → Prop} [DecidablePred p] {err : Int → Err} {g : Int → Int} {s : State}
    {xs : List Int} (hxs : ∀ x ∈ xs, p x) (hs : Pushable s (xs.map g)) :
    xs.foldlM (fun q x => do require (p x) (err x); seqPush q (g x)) s.sout = .ok (s.sout ++ xs.map g) := by
  rw [← hs.seqPushAll_eq, seqPushAll, List.foldlM_map]
  generalize s.sout = q
  clear hs
  induction xs generalizing q with
  | nil => rfl
  | cons x xs ih =>
    obtain ⟨hx, hxs⟩ := List.forall_mem_cons.mp hxs
    rw [List.foldlM_cons, List.foldlM_cons, bind_of_ok (require_pos hx _)]
    exact congrArg _ (funext (ih hxs))

/-- A check that every element of a list passes. -/
theorem checks_pass {p : Int → Prop} [DecidablePred p] {err : Int → Err} {xs : List Int} (hxs : ∀ x ∈ xs, p x) :
    xs.forM (fun x => require (p x) (err x)) = .ok () := by
  induction xs with
  | nil => rfl
  | cons x xs ih =>
    obtain ⟨hx, hxs⟩ := List.forall_mem_cons.mp hxs
    exact (bind_of_ok (require_pos hx _) _).trans (ih hxs)

/-! Delta. -/

theorem deltaEnc_eq_zipWith (prev : Int) (xs : List Int) : deltaEnc prev xs = List.zipWith (· - ·) xs (prev :: xs) := by
  induction xs generalizing prev with
  | nil => rfl
  | cons x xs ih => rw [deltaEnc, ih, List.zipWith_cons_cons]

theorem scanl_add_eq_cons_deltaDec (acc : Int) (ys : List Int) : ys.scanl (· + ·) acc = acc :: deltaDec acc ys := by
  induction ys generalizing acc with
  | nil => rfl
  | cons y ys ih => rw [List.scanl_cons, ih, deltaDec]

/-! Zig-zag and focused zig-zag. -/

theorem unZigZag_eq (u : Int) : unZigZag u = if Even u then u / 2 else -((u + 1) / 2) := by
  simp only [unZigZag, Int.even_iff]

theorem foldAround_nonneg {v : Int} (f : Int) (hv : 0 ≤ v) : 0 ≤ foldAround v f := by
  unfold foldAround
  split
  · split <;> omega
  · exact hv

/-- The fold maps [0, 2f] to itself. -/
theorem foldAround_le_iff {v : Int} (f : Int) (hv : 0 ≤ v) : foldAround v f ≤ 2 * f ↔ v ≤ 2 * f := by
  unfold foldAround
  split
  · split <;> omega
  · omega

theorem foldAround_of_lt {v f : Int} (h : 2 * f < v) : foldAround v f = v := if_neg (not_le.mpr h)

/-- The focused unfold undoes the focused fold of every natural number, whatever the focus (42_transforms.md R175). -/
theorem unfoldAround_foldAround {v : Int} (f : Int) (hv : 0 ≤ v) : unfoldAround (foldAround v f) f = v := by
  by_cases hbig : 2 * f < v
  · rw [foldAround_of_lt hbig, unfoldAround, if_neg (not_le.mpr hbig)]
  · have hv' : v ≤ 2 * f := not_lt.mp hbig
    rw [unfoldAround, if_pos ((foldAround_le_iff f hv).mpr hv'), foldAround, if_pos hv']
    simp only [Int.even_iff]
    split <;> split <;> omega

/-- XF.FZZE and XF.FZZD of elements that are not negative. -/
theorem xfFocused_completes {g : Int → Int → Int} {s : State} (hf : s.arg0.toNat < 2 ^ 30) (hs : ∀ e ∈ s.sin, 0 ≤ e)
    (hp : Pushable s (s.sin.map (fun v => g v s.arg0.toNat))) :
    endCommand s (xfFocused g s) = .next (afterXf s (s.sin.map (fun v => g v s.arg0.toNat))) := by
  refine endCommand_of_ok ((bind_of_ok (require_pos hf _) _).trans (bind_of_ok ?_ _))
  exact checkedPushes_pass (p := fun x => 0 ≤ x) (err := fun x => domainErr 0x30#8 (.val x)) hs hp

/-- Settles O30: every result is pushed whole, and the fold is undone case by case. -/
theorem elementTransformResults : Obligations.ElementTransformResults := by
  refine ⟨fun s => ⟨fun hp => ?_, fun hp => ?_, fun hp => xfSeq_completes hp.seqPushAll_eq, fun hs hp => ?_⟩,
    fun s hf hs => ?_, fun v f hv hf => ?_⟩
  · rw [← deltaEnc_eq_zipWith] at hp ⊢
    exact xfSeq_completes hp.seqPushAll_eq
  · rw [scanl_add_eq_cons_deltaDec, List.tail_cons] at hp ⊢
    exact xfSeq_completes hp.seqPushAll_eq
  · simp only [← unZigZag_eq] at hp ⊢
    exact xfSeq_completes
      (checkedPushes_pass (p := fun x => 0 ≤ x) (err := fun x => domainErr 0x30#8 (.val x)) hs hp)
  · intro f fold unfold'
    have hfold : fold = fun v => focusedZigZag v s.arg0.toNat := funext fun v => (focusedZigZag_eq v f).symm
    have hunfold : unfold' = fun u => focusedUnZigZag u s.arg0.toNat := funext fun u => (focusedUnZigZag_eq u f).symm
    rw [hfold, hunfold]
    exact ⟨xfFocused_completes hf hs, xfFocused_completes hf hs⟩
  · exact ⟨focusedZigZag_eq v f, focusedUnZigZag_eq v f, foldAround_nonneg f hv, unfoldAround_foldAround f hv,
      foldAround_le_iff f hv, foldAround_of_lt⟩

/-! Tracked sum. -/

theorem exec_xfTsume_ok {s : State} {ns : List Nat} (hsum : ns.sum ≤ s.arg0.toNat) (hs : s.sin = ns.map Int.ofNat)
    (hb : s.bout.length + (tsumBits s.arg0.toNat ns).length ≤ Config.bitCap) :
    exec .xfTsume s = .next (complete { s with
      bout := s.bout ++ tsumBits s.arg0.toNat ns
      sin := []
      res0 := BitVec.ofNat 32 (tsumBits s.arg0.toNat ns).length }) := by
  have hloop := tsumEncFrom_append [] 0 hsum hb
  rw [List.append_nil, ← hs, Nat.zero_add] at hloop
  exact endCommand_of_ok (bind_of_ok hloop _)

theorem exec_xfTsumd_ok {s : State} {ns : List Nat} {rest : Bits} (hsum : ns.sum ≤ s.arg0.toNat)
    (hc : s.arg1.toNat = ns.length) (hs : s.bin = tsumBits s.arg0.toNat ns ++ rest)
    (hp : Pushable s (ns.map Int.ofNat)) :
    exec .xfTsumd s = .next (complete { s with bin := rest, sout := s.sout ++ ns.map Int.ofNat }) := by
  obtain ⟨hroom, hrange⟩ := hp
  rw [List.length_map] at hroom
  have hloop := tsumDecFrom_append (total := s.arg0.toNat) (p := 0) 0 rest (by omega) hroom hrange
  rw [Nat.sub_zero, Nat.add_zero, ← hs, ← hc] at hloop
  exact endCommand_of_ok (bind_of_ok hloop _)

/-- Settles O31: the loops write and read one field after the other with the budget left. -/
theorem trackedSumResults : Obligations.TrackedSumResults :=
  fun _ _ hsum => ⟨exec_xfTsume_ok hsum, fun _ hc hs hp => exec_xfTsumd_ok hsum hc hs hp⟩

/-! Palettes. -/

/-- The model's palette is the only ascending list of a sequence's values. -/
theorem palette_eq {xs p : List Int} (hp : p.Pairwise (· < ·)) (hmem : ∀ x, x ∈ p ↔ x ∈ xs) : palette xs = p := by
  have hnodup : p.Nodup := hp.imp ne_of_lt
  have hperm : (palette xs).Perm p :=
    (List.perm_insertionSort _ _).trans
      ((List.perm_ext_iff_of_nodup (List.nodup_dedup xs) hnodup).mpr fun x => List.mem_dedup.trans (hmem x).symm)
  exact hperm.eq_of_pairwise' (List.pairwise_insertionSort (· ≤ ·) xs.dedup) (hp.imp le_of_lt)

theorem palEnc_eq (xs : List Int) :
    palEnc xs = ((palette xs).length : Int) ::
      (List.zipWith (· - ·) (palette xs) (0 :: palette xs) ++ xs.map (fun x => ((palette xs).idxOf x : Int))) := by
  unfold palEnc
  cases palette xs with
  | nil => rfl
  | cons p0 p => simp only [deltaEnc_eq_zipWith, List.zipWith_cons_cons, sub_zero]

/-- The indices of a sequence in its palette are looked up to the sequence. -/
theorem palPushes_indices {s : State} {xs p : List Int} (hmem : ∀ x ∈ xs, x ∈ p) (hs : Pushable s xs) :
    (xs.map (fun x => (p.idxOf x : Int))).foldlM (palPush p p.length) s.sout = .ok (s.sout ++ xs) := by
  have hback : (xs.map (fun x => (p.idxOf x : Int))).map (fun e => p.getD e.toNat 0) = xs := by
    rw [List.map_map, List.map_congr_left (g := id) fun x hx => ?_, List.map_id]
    have hlt : p.idxOf x < p.length := List.idxOf_lt_length_iff.mpr (hmem x hx)
    simp [hlt]
  have hrange : ∀ e ∈ xs.map (fun x => (p.idxOf x : Int)), 0 ≤ e ∧ e < (p.length : Int) := by
    simp only [List.forall_mem_map]
    exact fun x hx => ⟨Int.natCast_nonneg _, Int.ofNat_lt.mpr (List.idxOf_lt_length_iff.mpr (hmem x hx))⟩
  have hpush := checkedPushes_pass (p := fun x => 0 ≤ x ∧ x < (p.length : Int))
    (err := fun x => parseErr 0x15#8 (.val x)) hrange (by rwa [hback])
  rwa [hback] at hpush

theorem exec_xfPald_ok {s : State} {xs p : List Int} (hp : p.Pairwise (· < ·)) (hmem : ∀ x ∈ xs, x ∈ p)
    (hs : s.sin = (p.length : Int) ::
      (List.zipWith (· - ·) p (0 :: p) ++ xs.map (fun x => (p.idxOf x : Int))))
    (hpush : Pushable s xs) : exec .xfPald s = .next (afterXf s xs) := by
  have hdrop (k : Int) (is : List Int) : (k :: (List.zipWith (· - ·) p (0 :: p) ++ is)).drop (1 + p.length) = is := by
    rw [Nat.add_comm, List.drop_succ_cons]
    exact List.drop_left' (by simp)
  refine xfSeq_completes ?_
  rw [hs]
  refine (bind_of_ok (require_pos ?_ _) _).trans ((bind_of_ok (palRead_heading hp) _).trans ?_)
  · simp only [List.length_cons, List.length_append, List.length_zipWith]
    omega
  · rw [Int.toNat_natCast, hdrop]
    exact palPushes_indices hmem hpush

/-- Settles O35: the palette is determined by its order and its members, and its heading and the indices are read back. -/
theorem paletteResults : Obligations.PaletteResults := by
  intro s xs p hp hmem ys
  refine ⟨fun hs hpush => ?_, fun hs hpush => exec_xfPald_ok hp (fun x => (hmem x).mpr) hs hpush⟩
  have hys : ys = palEnc s.sin := by rw [hs, palEnc_eq, palette_eq hp hmem]
  rw [hys] at hpush ⊢
  exact xfSeq_completes hpush.seqPushAll_eq

/-! Floor and median. -/

/-- min of a non-empty list is its member that no member is below. -/
theorem listMin_eq {x f : Int} {xs : List Int} (hf : f ∈ x :: xs) (hle : ∀ e ∈ x :: xs, f ≤ e) : listMin x xs = f := by
  have hmin : (x :: xs).min? = some f := List.min?_eq_some_iff.mpr ⟨hf, hle⟩
  exact Option.some.inj (List.min?_cons'.symm.trans hmin)

/-- The lower median is found in any sorted arrangement of the list. -/
theorem lowerMedian_eq {xs sorted : List Int} {m : Int} (hperm : sorted.Perm xs) (hsorted : sorted.Pairwise (· ≤ ·))
    (hm : sorted[(xs.length - 1) / 2]? = some m) : lowerMedian xs = m := by
  have hsort : xs.insertionSort (· ≤ ·) = sorted :=
    ((List.perm_insertionSort _ _).trans hperm.symm).eq_of_pairwise' (List.pairwise_insertionSort _ _) hsorted
  rw [lowerMedian, hsort, List.getD_eq_getElem?_getD, hm, Option.getD_some]

theorem exec_xfFlre_ok {s : State} {f : Int} (hf : f ∈ s.sin) (hle : ∀ e ∈ s.sin, f ≤ e)
    (hp : Pushable s (f :: s.sin.map (fun x => x - f))) :
    exec .xfFlre s = .next (afterXf s (f :: s.sin.map (fun x => x - f))) := by
  refine xfSeq_completes ?_
  rw [← hp.seqPushAll_eq]
  cases hs : s.sin with
  | nil => simp [hs] at hf
  | cons x xs =>
    rw [hs] at hf hle
    simp only [listMin_eq hf hle]

theorem exec_xfMede_ok {s : State} {sorted : List Int} {m : Int} (hperm : sorted.Perm s.sin)
    (hsorted : sorted.Pairwise (· ≤ ·)) (hm : sorted[(s.sin.length - 1) / 2]? = some m)
    (hp : Pushable s (m :: s.sin.map (fun x => zigZag (x - m)))) :
    exec .xfMede s = .next (afterXf s (m :: s.sin.map (fun x => zigZag (x - m)))) := by
  have hmedian := lowerMedian_eq hperm hsorted hm
  refine xfSeq_completes ?_
  rw [← hp.seqPushAll_eq]
  cases hs : s.sin with
  | nil =>
    rw [hs] at hperm hm
    simp [hperm.eq_nil] at hm
  | cons x xs =>
    rw [hs] at hmedian
    simp only [hmedian]

/-- Residuals that are not negative (42_transforms.md R199, R201). -/
theorem residuals_pass {g : Int → Int} {s : State} {es : List Int} (hes : ∀ e ∈ es, 0 ≤ e) (hp : Pushable s (es.map g)) :
    es.foldlM (residualPush g) s.sout = .ok (s.sout ++ es.map g) :=
  checkedPushes_pass (p := fun x => 0 ≤ x) (err := fun x => parseErr 0x15#8 (.val x)) hes hp

theorem exec_xfFlrd_ok {s : State} {f : Int} {es : List Int} (hs : s.sin = f :: es) (hes : ∀ e ∈ es, 0 ≤ e)
    (hp : Pushable s (es.map (fun e => e + f))) :
    exec .xfFlrd s = .next (afterXf s (es.map (fun e => e + f))) := by
  refine xfSeq_completes ?_
  rw [hs]
  exact residuals_pass hes hp

theorem exec_xfMedd_ok {s : State} {m : Int} {es : List Int} (hs : s.sin = m :: es) (hes : ∀ e ∈ es, 0 ≤ e)
    (hp : Pushable s (es.map (fun e => unZigZag e + m))) :
    exec .xfMedd s = .next (afterXf s (es.map (fun e => unZigZag e + m))) := by
  refine xfSeq_completes ?_
  rw [hs]
  exact residuals_pass hes hp

theorem afterXf_nil {s : State} (hs : s.sin = []) : afterXf s [] = complete s := by
  rw [afterXf, List.append_nil, ← hs]

/-- A heading command of the empty sequence pushes nothing. -/
theorem heading_empty {f : List Int → List Int → Except Err (List Int)} {s : State} (hs : s.sin = [])
    (hf : f [] s.sout = .ok s.sout) : endCommand s (xfSeq f s) = .next (complete s) := by
  rw [← afterXf_nil hs]
  refine xfSeq_completes ?_
  rw [hs, hf, List.append_nil]

/-- Settles O36: the least value and the lower median are determined by order, and the residuals are pushed one by one. -/
theorem floorAndMedianResults : Obligations.FloorAndMedianResults := by
  refine fun s => ⟨fun f hf hle hp => exec_xfFlre_ok hf hle hp, fun f es hs hes hp => exec_xfFlrd_ok hs hes hp,
    fun sorted m hperm hsorted hm hp => exec_xfMede_ok hperm hsorted hm hp,
    fun m es hs hes hp => exec_xfMedd_ok hs hes hp, fun hs => ?_⟩
  simp only [List.forall_mem_cons]
  exact ⟨heading_empty hs rfl, heading_empty hs rfl, heading_empty hs rfl, heading_empty hs rfl, nofun⟩

end Sys2Proof.Machine
end

section
/-! The ruler order: the model's loop runs the queue of 42_transforms.md R191 to its end, every index is visited once, and
the ends of an interval are the nearest indices visited before its midpoint. -/

namespace Sys2Proof.Machine

/-! The loop and the queue. -/

/-- A bound on the intervals a queue still gives: 2w - 1 of them come out of an interval of width w. -/
def rulerWork (q : List (Nat × Nat)) : Nat := (q.map (fun p => 2 * (p.2 - p.1) - 1)).sum

theorem rulerWork_cons (a b : Nat) (q : List (Nat × Nat)) :
    rulerWork ((a, b) :: q) = 2 * (b - a) - 1 + rulerWork q := List.sum_cons

@[simp] theorem rulerWork_nil : rulerWork [] = 0 := rfl

theorem rulerWork_append (q r : List (Nat × Nat)) : rulerWork (q ++ r) = rulerWork q + rulerWork r := by
  simp [rulerWork]

/-- With fuel for the work left, the model's loop visits what the queue does. -/
theorem rulerQueue_rulerMids {fuel : Nat} {q : List (Nat × Nat)} (hq : ∀ p ∈ q, p.1 < p.2)
    (hfuel : rulerWork q ≤ fuel) : RulerQueue q (rulerMids fuel q) := by
  induction fuel generalizing q with
  | zero =>
    cases q with
    | nil => exact .empty
    | cons p q =>
      obtain ⟨hp, -⟩ := List.forall_mem_cons.mp hq
      rw [rulerWork_cons] at hfuel
      omega
  | succ fuel ih =>
    cases q with
    | nil => exact .empty
    | cons p q =>
      obtain ⟨a, b⟩ := p
      obtain ⟨hab, hq⟩ := List.forall_mem_cons.mp hq
      dsimp only at hab
      rw [rulerWork_cons] at hfuel
      by_cases hwide : a + 2 ≤ b
      · rw [rulerMids, if_pos hwide]
        refine .visit (by omega) (ih (List.forall_mem_append.mpr ⟨hq, ?_⟩) ?_)
        · simp only [List.forall_mem_cons, List.not_mem_nil, false_implies, implies_true, and_true]
          omega
        · rw [rulerWork_append, rulerWork_cons, rulerWork_cons, rulerWork_nil]
          omega
      · rw [rulerMids, if_neg hwide]
        exact .narrow (by omega) (ih hq (by omega))

/-- From two indices on, the order is the two endpoints and the visits of the queue of the whole interval. -/
theorem rulerVisits_of_two_le {l : Nat} (hl : 2 ≤ l) :
    ∃ out : List (Nat × Nat × Nat), RulerQueue [(0, l - 1)] out
      ∧ rulerVisits l = (0, none) :: (l - 1, none) :: out.map (fun t => (t.1, some (t.2.1, t.2.2))) := by
  obtain ⟨l, rfl⟩ := Nat.exists_eq_add_of_le' hl
  refine ⟨rulerMids (2 * (l + 2)) [(0, l + 1)], rulerQueue_rulerMids (by simp) ?_, rfl⟩
  rw [rulerWork_cons, rulerWork_nil]
  omega

theorem rulerVisits_map_fst {l : Nat} {out : List (Nat × Nat × Nat)}
    (h : rulerVisits l = (0, none) :: (l - 1, none) :: out.map (fun t => (t.1, some (t.2.1, t.2.2)))) :
    rulerOrder l = 0 :: (l - 1) :: out.map Prod.fst := by
  rw [rulerOrder, h, List.map_cons, List.map_cons, List.map_map]
  rfl

/-! Every index once. -/

/-- The indices strictly between the ends of an interval. -/
def inside (p : Nat × Nat) : List Nat := List.range' (p.1 + 1) (p.2 - p.1 - 1)

theorem inside_perm_midpoint {a m b : Nat} (ham : a < m) (hmb : m < b) :
    (inside (a, b)).Perm (m :: (inside (a, m) ++ inside (m, b))) := by
  have hsplit : inside (a, b) = inside (a, m) ++ m :: inside (m, b) := by
    have hlen : b - a - 1 = (m - a - 1) + (b - m - 1 + 1) := by omega
    have hmid : a + 1 + (m - a - 1) = m := by omega
    simp only [inside]
    rw [hlen, ← List.range'_append_1, hmid, List.range'_succ]
  rw [hsplit]
  exact List.perm_middle

/-- A queue visits every index inside its intervals once, and no other. -/
theorem RulerQueue.perm {q : List (Nat × Nat)} {out : List (Nat × Nat × Nat)} (h : RulerQueue q out) :
    (out.map Prod.fst).Perm (q.flatMap inside) := by
  induction h with
  | empty => exact .nil
  | @visit a b q out hwide _ ih =>
    have hmid := inside_perm_midpoint (a := a) (m := (a + b) / 2) (b := b) (by omega) (by omega)
    rw [List.flatMap_append, List.flatMap_cons, List.flatMap_singleton] at ih
    rw [List.map_cons, List.flatMap_cons]
    exact ((ih.trans List.perm_append_comm).cons _).trans (hmid.symm.append_right _)
  | @narrow a b q out hnarrow _ ih =>
    have hnone : inside (a, b) = [] := by simp [inside, Nat.sub_eq_zero_of_le (by omega : b - a ≤ 1)]
    rwa [List.flatMap_cons, hnone, List.nil_append]

/-- The ruler order visits every index once (42_transforms.md R191). -/
theorem rulerOrder_perm_range (l : Nat) : (rulerOrder l).Perm (List.range l) := by
  match l with
  | 0 => exact .refl _
  | 1 => exact .refl _
  | l + 2 =>
    obtain ⟨out, hqueue, hvisits⟩ := rulerVisits_of_two_le (Nat.le_add_left 2 l)
    have hmids : (out.map Prod.fst).Perm (List.range' 1 l) := by
      simpa [inside] using hqueue.perm
    have hrange : List.range (l + 2) = 0 :: (List.range' 1 l ++ [l + 1]) := by
      rw [List.range_eq_range', List.range'_succ, List.range'_1_concat, Nat.zero_add, Nat.add_comm 1 l]
    rw [rulerVisits_map_fst hvisits, hrange]
    exact (((hmids.cons (l + 1)).trans (List.perm_append_singleton _ _).symm)).cons 0

theorem length_rulerVisits (l : Nat) : (rulerVisits l).length = l := by
  have h := (rulerOrder_perm_range l).length_eq
  rwa [rulerOrder, List.length_map, List.length_range] at h

/-! The nearest visited indices. -/

/-- The intervals of a queue against the indices seen so far: both ends of an interval are seen, nothing inside one is, and
no two overlap. -/
structure QueueOk (seen : List Nat) (q : List (Nat × Nat)) : Prop where
  nonempty : ∀ p ∈ q, p.1 < p.2
  ends : ∀ p ∈ q, p.1 ∈ seen ∧ p.2 ∈ seen
  unseen : ∀ p ∈ q, ∀ i ∈ seen, i ≤ p.1 ∨ p.2 ≤ i
  apart : q.Pairwise (fun p r => p.2 ≤ r.1 ∨ r.2 ≤ p.1)

theorem QueueOk.tail {seen : List Nat} {p : Nat × Nat} {q : List (Nat × Nat)} (h : QueueOk seen (p :: q)) :
    QueueOk seen q where
  nonempty := (List.forall_mem_cons.mp h.nonempty).2
  ends := (List.forall_mem_cons.mp h.ends).2
  unseen := (List.forall_mem_cons.mp h.unseen).2
  apart := (List.pairwise_cons.mp h.apart).2

/-- Halving the front interval at a midpoint that is then seen keeps the queue sound. -/
theorem QueueOk.halve {seen : List Nat} {a m b : Nat} {q : List (Nat × Nat)} (h : QueueOk seen ((a, b) :: q))
    (ham : a < m) (hmb : m < b) : QueueOk (seen ++ [m]) (q ++ [(a, m), (m, b)]) := by
  obtain ⟨-, hnonempty⟩ := List.forall_mem_cons.mp h.nonempty
  obtain ⟨⟨haseen, hbseen⟩, hends⟩ := List.forall_mem_cons.mp h.ends
  obtain ⟨hfront, hunseen⟩ := List.forall_mem_cons.mp h.unseen
  obtain ⟨hclear, hapart⟩ := List.pairwise_cons.mp h.apart
  have mem_halves {P : Nat × Nat → Prop} (hq : ∀ p ∈ q, P p) (hl : P (a, m)) (hr : P (m, b)) :
      ∀ p ∈ q ++ [(a, m), (m, b)], P p :=
    List.forall_mem_append.mpr ⟨hq, List.forall_mem_cons.mpr ⟨hl, List.forall_mem_singleton.mpr hr⟩⟩
  have mem_seen {P : Nat → Prop} (hs : ∀ i ∈ seen, P i) (hm : P m) : ∀ i ∈ seen ++ [m], P i :=
    List.forall_mem_append.mpr ⟨hs, List.forall_mem_singleton.mpr hm⟩
  have hmseen : m ∈ seen ++ [m] := List.mem_append_right _ (List.mem_singleton_self m)
  refine ⟨mem_halves hnonempty ham hmb, mem_halves (fun p hp => ?_) ?_ ?_, mem_halves (fun p hp => ?_) ?_ ?_, ?_⟩
  · obtain ⟨h1, h2⟩ := hends p hp
    exact ⟨List.mem_append_left _ h1, List.mem_append_left _ h2⟩
  · exact ⟨List.mem_append_left _ haseen, hmseen⟩
  · exact ⟨hmseen, List.mem_append_left _ hbseen⟩
  · refine mem_seen (hunseen p hp) ?_
    have := hclear p hp
    dsimp only at this
    omega
  · refine mem_seen (fun i hi => ?_) (.inr le_rfl)
    have := hfront i hi
    dsimp only at this ⊢
    omega
  · refine mem_seen (fun i hi => ?_) (.inl le_rfl)
    have := hfront i hi
    dsimp only at this ⊢
    omega
  · refine List.pairwise_append.mpr ⟨hapart, by simp, fun p hp r hr => ?_⟩
    have hp := hclear p hp
    dsimp only at hp
    obtain rfl | hr := List.mem_cons.mp hr
    · dsimp only
      omega
    · obtain rfl := List.mem_singleton.mp hr
      dsimp only
      omega

/-- What a visit of m with interval (a, b) is, given the indices seen before it: the midpoint of an interval that holds no
index seen before but its two ends (42_transforms.md R191). -/
structure VisitOk (seen : List Nat) (m a b : Nat) : Prop where
  mid : m = (a + b) / 2
  left : a < m
  right : m < b
  leftSeen : a ∈ seen
  rightSeen : b ∈ seen
  nearest : ∀ i ∈ seen, i ≤ a ∨ b ≤ i

/-- Every visit of a sound queue halves the nearest indices seen before it. -/
theorem RulerQueue.visitOk {q : List (Nat × Nat)} {out : List (Nat × Nat × Nat)} (h : RulerQueue q out)
    {seen : List Nat} (hq : QueueOk seen q) {pre post : List (Nat × Nat × Nat)} {m a b : Nat}
    (hout : out = pre ++ (m, a, b) :: post) : VisitOk (seen ++ pre.map Prod.fst) m a b := by
  induction h generalizing seen pre with
  | empty => simp at hout
  | @visit a' b' q out hwide _ ih =>
    have hlo : a' < (a' + b') / 2 := by omega
    have hhi : (a' + b') / 2 < b' := by omega
    cases pre with
    | nil =>
      rw [List.nil_append] at hout
      cases hout
      obtain ⟨haseen, hbseen⟩ := hq.ends _ (List.mem_cons_self ..)
      rw [List.map_nil, List.append_nil]
      exact ⟨rfl, hlo, hhi, haseen, hbseen, hq.unseen _ (List.mem_cons_self ..)⟩
    | cons t pre =>
      rw [List.cons_append] at hout
      obtain ⟨rfl, hrest⟩ := List.cons.inj hout
      have hlater := ih (hq.halve hlo hhi) hrest
      rwa [List.append_assoc] at hlater
  | narrow _ _ ih => exact ih hq.tail hout

/-- Every visit of the ruler order that has an interval halves the nearest indices visited before it. -/
theorem rulerVisits_visitOk {l : Nat} {before after : List (Nat × Option (Nat × Nat))} {m a b : Nat}
    (h : rulerVisits l = before ++ (m, some (a, b)) :: after) : VisitOk (before.map Prod.fst) m a b := by
  match l with
  | 0 => simp [rulerVisits] at h
  | 1 =>
    have hmem : (m, some (a, b)) ∈ rulerVisits 1 := h ▸ List.mem_append_right _ (List.mem_cons_self ..)
    simp [rulerVisits] at hmem
  | l + 2 =>
    obtain ⟨out, hqueue, hvisits⟩ := rulerVisits_of_two_le (Nat.le_add_left 2 l)
    rw [hvisits] at h
    match before with
    | [] => simp at h
    | [_] => simp at h
    | t :: u :: before =>
      simp only [List.cons_append, List.cons.injEq] at h
      obtain ⟨rfl, rfl, h⟩ := h
      obtain ⟨pre, rest, rfl, rfl, hrest⟩ := List.map_eq_append_iff.mp h
      obtain ⟨⟨m', a', b'⟩, post, rfl, hhead, -⟩ := List.map_eq_cons_iff.mp hrest
      cases hhead
      have hstart : QueueOk [0, l + 1] [(0, l + 1)] := ⟨by simp, by simp, by simp, by simp⟩
      have hvisit := hqueue.visitOk hstart rfl
      simpa [Function.comp_def] using hvisit

/-- Settles O33: the loop has fuel for the whole queue; the queue visits the indices inside its intervals, and keeps them
apart with their ends seen. -/
theorem rulerOrderLaw : Obligations.RulerOrderLaw := by
  refine ⟨rfl, rfl, fun l => ⟨rulerOrder_perm_range l, fun hl => ?_, fun before after m a b h => ?_⟩⟩
  · obtain ⟨out, hqueue, hvisits⟩ := rulerVisits_of_two_le hl
    exact ⟨out, hqueue, hvisits, rulerVisits_map_fst hvisits⟩
  · obtain ⟨hmid, hleft, hright, hleftSeen, hrightSeen, hnearest⟩ := rulerVisits_visitOk h
    exact ⟨hmid, hleft, hright, hleftSeen, hrightSeen, hnearest⟩

end Sys2Proof.Machine
end

section
/-! XF.RULERE and XF.RULERD: the decoder finds the foci of the encoder, since the ends of an interval are decoded before
its midpoint (42_transforms.md R190, R192, R193). -/

namespace Sys2Proof.Machine

/-- A focus depends on the values at the ends of its interval only. -/
theorem rulerFocus_congr {xs ys : List Int} {t : Nat × Option (Nat × Nat)}
    (h : ∀ a b, t.2 = some (a, b) → xs.getD a 0 = ys.getD a 0 ∧ xs.getD b 0 = ys.getD b 0) :
    rulerFocus xs t = rulerFocus ys t := by
  obtain ⟨m, _ | ⟨a, b⟩⟩ := t
  · rfl
  · obtain ⟨ha, hb⟩ := h a b rfl
    simp only [rulerFocus, ha, hb]

/-- The element XF.RULERE writes for a visit (42_transforms.md R192). -/
def rulerCode (xs : List Int) (t : Nat × Option (Nat × Nat)) : Int := foldAround (xs.getD t.1 0) (rulerFocus xs t)

theorem rulerEnc_eq (xs : List Int) : rulerEnc xs = (rulerVisits xs.length).map (rulerCode xs) := by
  simp only [rulerEnc, focusedZigZag_eq]
  rfl

theorem length_rulerEnc (xs : List Int) : (rulerEnc xs).length = xs.length := by
  rw [rulerEnc_eq, List.length_map, length_rulerVisits]

section
variable {xs : List Int} (hxs : ∀ e ∈ xs, 0 ≤ e)
include hxs

theorem getD_zero_nonneg (i : Nat) : 0 ≤ xs.getD i 0 := by
  rw [List.getD_eq_getElem?_getD]
  cases h : xs[i]? with
  | none => exact le_rfl
  | some e => exact hxs e (List.mem_of_getElem? h)

theorem rulerEnc_nonneg : ∀ u ∈ rulerEnc xs, 0 ≤ u := by
  rw [rulerEnc_eq, List.forall_mem_map]
  exact fun t _ => foldAround_nonneg _ (getD_zero_nonneg hxs t.1)

/-- A decoder whose array is right at the indices visited before decodes the next visit to the encoder's value. -/
theorem focusedUnZigZag_rulerCode {arr : List Int} {before after : List (Nat × Option (Nat × Nat))}
    {t : Nat × Option (Nat × Nat)} (hvisits : rulerVisits xs.length = before ++ t :: after)
    (hdone : ∀ i ∈ before.map Prod.fst, arr.getD i 0 = xs.getD i 0) :
    focusedUnZigZag (rulerCode xs t) (rulerFocus arr t) = xs.getD t.1 0 := by
  have hfocus : rulerFocus arr t = rulerFocus xs t := by
    refine rulerFocus_congr fun a b hab => ?_
    obtain ⟨m, o⟩ := t
    obtain rfl : o = some (a, b) := hab
    have hvisit := rulerVisits_visitOk hvisits
    exact ⟨hdone a hvisit.leftSeen, hdone b hvisit.rightSeen⟩
  rw [focusedUnZigZag_eq, hfocus]
  exact unfoldAround_foldAround _ (getD_zero_nonneg hxs t.1)

/-- After all visits the decoder's array is the sequence. -/
theorem rulerDecFrom_rulerCode {arr : List Int} {before after : List (Nat × Option (Nat × Nat))}
    (hvisits : rulerVisits xs.length = before ++ after) (hlen : arr.length = xs.length)
    (hdone : ∀ i ∈ before.map Prod.fst, arr.getD i 0 = xs.getD i 0) :
    rulerDecFrom after (after.map (rulerCode xs)) arr = xs := by
  induction after generalizing before arr with
  | nil =>
    show arr = xs
    refine List.ext_getElem hlen fun i hi hi' => ?_
    have hmem : i ∈ before.map Prod.fst := by
      rw [← List.append_nil before, ← hvisits]
      exact (rulerOrder_perm_range xs.length).mem_iff.mpr (List.mem_range.mpr hi')
    rw [← List.getD_eq_getElem arr 0 hi, ← List.getD_eq_getElem xs 0 hi', hdone i hmem]
  | cons t after ih =>
    have ht : t.1 < arr.length := by
      rw [hlen, ← List.mem_range, ← (rulerOrder_perm_range xs.length).mem_iff, rulerOrder, hvisits]
      exact List.mem_map_of_mem (List.mem_append_right _ (List.mem_cons_self ..))
    rw [List.map_cons, rulerDecFrom, focusedUnZigZag_rulerCode hxs hvisits hdone]
    refine ih (before := before ++ [t]) (by rw [hvisits, List.append_assoc]; rfl) (by rw [List.length_set, hlen])
      fun i hi => ?_
    by_cases hit : t.1 = i
    · simp [← hit, ht]
    · rw [List.getD_eq_getElem?_getD, List.getElem?_set_ne hit, ← List.getD_eq_getElem?_getD]
      refine hdone i ?_
      rw [List.map_append, List.mem_append] at hi
      exact hi.resolve_right fun h => hit (List.mem_singleton.mp h).symm

/-- XF.RULERD undoes XF.RULERE. -/
theorem rulerDec_rulerEnc : rulerDec (rulerEnc xs) = xs := by
  rw [rulerDec, length_rulerEnc, rulerEnc_eq]
  exact rulerDecFrom_rulerCode hxs (before := []) rfl List.length_replicate (by simp)

end

/-- Both ruler transforms push their whole result once every element has passed. -/
theorem ruler_completes {f : List Int → List Int} {s : State} (hs : ∀ e ∈ s.sin, 0 ≤ e) (hp : Pushable s (f s.sin)) :
    endCommand s (xfSeq (fun xs sout => do xs.forM requireNonneg; seqPushAll sout (f xs)) s)
      = .next (afterXf s (f s.sin)) :=
  xfSeq_completes ((bind_of_ok (checks_pass (p := fun x => 0 ≤ x) (err := fun x => domainErr 0x30#8 (.val x)) hs) _).trans
    hp.seqPushAll_eq)

/-- Settles O34: the encoder's elements are not negative, and the decoder undoes them visit by visit. -/
theorem rulerResults : Obligations.RulerResults := by
  intro s xs hxs at' focus ys
  have hys : ys = rulerEnc xs := (rulerEnc_eq xs).symm
  have hback : rulerDec ys = xs := by rw [hys, rulerDec_rulerEnc hxs]
  refine ⟨fun hs hp => ?_, fun hs hp => ?_⟩
  · rw [hys, ← hs] at hp ⊢
    exact ruler_completes (by rwa [hs]) hp
  · rw [← hback, ← hs] at hp ⊢
    exact ruler_completes (by rw [hs, hys]; exact rulerEnc_nonneg hxs) hp

end Sys2Proof.Machine
end

section
/-! The checks at the head of the CAT, SPL and CER commands: what each one refuses, by phase, by initialisation and by
operand (10_state.md R35, R37, 43_catalogue.md R215, R230, 44_spline.md R273, 45_cer.md R281). -/

namespace Sys2Proof.Machine

/-! One check at a time. -/

section
variable {s : State} {x y : Nat}

theorem requireNotActive_pass (h : s.cer.phase ≠ .active) : requireNotActive s = .ok () := require_pos h _

theorem requireNotActive_refuse (h : s.cer.phase = .active) :
    requireNotActive s = .error (integrityErr 0x40#8 (.val s.cur.toNat)) := require_neg (not_not.mpr h) _

theorem requireSplValid_pass (h : s.spl.valid = true) : requireSplValid s = .ok () := require_pos h _

theorem requireSplValid_refuse (h : s.spl.valid = false) :
    requireSplValid s = .error (integrityErr 0x20#8 (.val s.cur.toNat)) := require_neg (by simp [h]) _

theorem requireCatValid_pass (h : s.cat.valid = true) : requireCatValid s = .ok () := require_pos h _

theorem requireCatValid_refuse (h : s.cat.valid = false) :
    requireCatValid s = .error (integrityErr 0x20#8 (.val s.cur.toNat)) := require_neg (by simp [h]) _

theorem catCheckX_pass (hv : s.cat.valid = true) (hx : x < s.cat.n) : catCheckX s x = .ok () :=
  (bind_of_ok (requireCatValid_pass hv) _).trans (require_pos hx _)

theorem catCheckX_beyond (hv : s.cat.valid = true) (hx : s.cat.n ≤ x) :
    catCheckX s x = .error (domainErr 0x02#8 (.val x)) :=
  (bind_of_ok (requireCatValid_pass hv) _).trans (require_neg (not_lt.mpr hx) _)

theorem catCheckXY_pass (hv : s.cat.valid = true) (hx : x < s.cat.n) (hy : y < s.cat.v) : catCheckXY s x y = .ok () :=
  (bind_of_ok (catCheckX_pass hv hx) _).trans (require_pos hy _)

theorem catCheckXY_beyond (hv : s.cat.valid = true) (hx : x < s.cat.n) (hy : s.cat.v ≤ y) :
    catCheckXY s x y = .error (domainErr 0x03#8 (.val y)) :=
  (bind_of_ok (catCheckX_pass hv hx) _).trans (require_neg (not_lt.mpr hy) _)

theorem requireGeometry_badN {n : Nat} (v : Nat) (h : ¬(2 ≤ n ∧ n ≤ Config.nMax)) :
    requireGeometry n v = .error (domainErr 0x01#8 (.val n)) := bind_of_error (require_neg h _) _

theorem requireGeometry_badV {n v : Nat} (hn : 2 ≤ n ∧ n ≤ Config.nMax) (h : ¬(2 ≤ v ∧ v ≤ Config.vMax)) :
    requireGeometry n v = .error (domainErr 0x01#8 (.val v)) :=
  (bind_of_ok (require_pos hn _) _).trans (require_neg h _)

end

/-! What a failing check makes of a command. -/

section
variable {s : State} {e : Err}

/-- The commands that begin with the check of the phase raise what it raises (43_catalogue.md R230, 44_spline.md R273). -/
theorem exec_mutating_refused (h : requireNotActive s = .error e) :
    ∀ i ∈ [Instr.catInit, .catElim, .catElimcol, .catImpmin, .catImpmax, .splInit],
      exec i s = .next (raiseError e s) := by
  simp only [List.forall_mem_cons]
  exact ⟨endCommand_of_error (bind_of_error h _), endCommand_of_error (bind_of_error h _),
    endCommand_of_error (bind_of_error h _), endCommand_of_error (bind_of_error h _),
    endCommand_of_error (bind_of_error h _), endCommand_of_error (bind_of_error h _), nofun⟩

theorem exec_catClamp_refused (h : catCheckX s (zext s.arg0) = .error e) :
    exec .catClamp s = .next (raiseError e s) := by
  show execCatClamp s = _
  rw [execCatClamp, h]

/-- The commands that read a column raise what the check of x raises. -/
theorem exec_columnRead_refused (h : catCheckX s (zext s.arg0) = .error e) :
    ∀ i ∈ [Instr.catCount, .catStatus, .catClamp, .catLimits], exec i s = .next (raiseError e s) := by
  simp only [List.forall_mem_cons]
  exact ⟨endCommand_of_error (bind_of_error h _), endCommand_of_error (bind_of_error (bind_of_error h _) _),
    exec_catClamp_refused h, endCommand_of_error (bind_of_error h _), nofun⟩

theorem exec_catStatus_refused (h : catCheckXY s (zext s.arg0) (zext s.arg1) = .error e) :
    exec .catStatus s = .next (raiseError e s) := endCommand_of_error (bind_of_error h _)

/-- Outside ACTIVE the two eliminations raise what the check of the cell raises. -/
theorem exec_elimination_refused (ha : s.cer.phase ≠ .active)
    (h : catCheckXY s (zext s.arg0) (zext s.arg1) = .error e) :
    ∀ i ∈ [Instr.catElim, .catElimcol], exec i s = .next (raiseError e s) := by
  simp only [List.forall_mem_cons]
  exact ⟨endCommand_of_error ((bind_of_ok (requireNotActive_pass ha) _).trans (bind_of_error h _)),
    endCommand_of_error ((bind_of_ok (requireNotActive_pass ha) _).trans (bind_of_error h _)), nofun⟩

/-- Outside ACTIVE every command on a column or a cell raises what the check of x raises. -/
theorem exec_column_refused (ha : s.cer.phase ≠ .active) (h : catCheckX s (zext s.arg0) = .error e) :
    ∀ i ∈ [Instr.catCount, .catStatus, .catElim, .catElimcol, .catClamp, .catLimits],
      exec i s = .next (raiseError e s) := by
  have hread := exec_columnRead_refused h
  have helim := exec_elimination_refused ha (bind_of_error h _)
  simp only [List.forall_mem_cons] at hread helim ⊢
  obtain ⟨hcount, hstatus, hclamp, hlimits, -⟩ := hread
  obtain ⟨helim, helimcol, -⟩ := helim
  exact ⟨hcount, hstatus, helim, helimcol, hclamp, hlimits, nofun⟩

/-- Outside ACTIVE the two impositions raise what the check of the catalogue raises. -/
theorem exec_imposition_refused (ha : s.cer.phase ≠ .active) (h : requireCatValid s = .error e) :
    ∀ i ∈ [Instr.catImpmin, .catImpmax], exec i s = .next (raiseError e s) := by
  simp only [List.forall_mem_cons]
  exact ⟨endCommand_of_error ((bind_of_ok (requireNotActive_pass ha) _).trans (bind_of_error h _)),
    endCommand_of_error ((bind_of_ok (requireNotActive_pass ha) _).trans (bind_of_error h _)), nofun⟩

theorem exec_splPredall_refused (h : requireSplValid s = .error e) :
    exec .splPredall s = .next (raiseError e s) := by
  show execSplPredall s = _
  rw [execSplPredall, h]

/-- The commands on an initialised Spline raise what the check of SPL.VALID raises. -/
theorem exec_spline_refused (h : requireSplValid s = .error e) :
    ∀ i ∈ [Instr.splSet, .splPred, .splSurr, .splBone, .splPredall, .cerScore], exec i s = .next (raiseError e s) := by
  have hx : splCheckX s (zext s.arg0) = .error e := bind_of_error h _
  simp only [List.forall_mem_cons]
  exact ⟨endCommand_of_error (bind_of_error h _), endCommand_of_error (bind_of_error hx _),
    endCommand_of_error (bind_of_error hx _), endCommand_of_error (bind_of_error hx _), exec_splPredall_refused h,
    endCommand_of_error (bind_of_error hx _), nofun⟩

end

/-- Outside ACTIVE no run starts: the block fails at once, with its structures as they were (log 30). -/
theorem whenActive_refused {s : State} (runs : State → RunEnd) (h : s.cer.phase ≠ .active) :
    whenActive runs s = .raised (integrityErr 0x43#8 (.val s.cur.toNat)) s := by
  rw [whenActive, require_neg h]
  rfl

/-- CER.RUN and CER.BLOCK outside ACTIVE leave PHASE = FAILED (45_cer.md R299, 60_exceptions.md R324). -/
theorem exec_cerRun_cerBlock_refused {s : State} (h : s.cer.phase ≠ .active) :
    ∀ i ∈ [Instr.cerRun, .cerBlock], exec i s = .next (raiseError (integrityErr 0x43#8 (.val s.cur.toNat))
      { s with cer := { s.cer with phase := .failed } }) := by
  simp only [List.forall_mem_cons]
  exact ⟨congrArg (endRun s) (whenActive_refused run h), congrArg (endBlock s) (whenActive_refused runBlock h), nofun⟩

theorem exec_cerFill_refused {s : State} (h : s.cer.phase = .active ∨ s.cer.phase = .idle) :
    exec .cerFill s = .next (raiseError (integrityErr 0x43#8 (.val s.cur.toNat)) s) := by
  have hphase : ¬(s.cer.phase = .done ∨ s.cer.phase = .failed) := by
    rcases h with h | h <;> simp [h]
  exact endCommand_of_error (bind_of_error (require_neg hphase _) _)

/-- Settles O15: each command's first check that fails decides, and a later check is reached only when the earlier ones
pass. -/
theorem phaseAndValidRefusals : Obligations.PhaseAndValidRefusals := by
  refine ⟨fun s => ⟨fun ha => ⟨?_, fun hv => ?_⟩, ?_, ?_⟩, fun s => ⟨fun hv => ⟨?_, fun ha => ?_⟩, fun hv => ?_⟩⟩
  · exact exec_mutating_refused (requireNotActive_refuse ha)
  · exact endCommand_of_error
      ((bind_of_ok (requireSplValid_pass hv) _).trans (bind_of_error (requireNotActive_refuse ha) _))
  · exact exec_cerRun_cerBlock_refused
  · exact exec_cerFill_refused
  · have hcat := requireCatValid_refuse hv
    have hread := exec_columnRead_refused (s := s) (bind_of_error hcat _)
    simp only [List.forall_mem_cons] at hread ⊢
    obtain ⟨hcount, hstatus, hclamp, hlimits, -⟩ := hread
    exact ⟨hcount, hstatus, endCommand_of_error (bind_of_error hcat _), hclamp, hlimits, nofun⟩
  · have hcat := requireCatValid_refuse hv
    have helim := exec_elimination_refused ha (bind_of_error (bind_of_error hcat _) _)
    have himpose := exec_imposition_refused ha hcat
    exact List.forall_mem_append.mpr ⟨helim, himpose⟩
  · exact exec_spline_refused (requireSplValid_refuse hv)

/-- Settles O38: CAT.INIT by the outcomes of the geometry check, the other commands by the first check that fails. -/
theorem catInitAndChecks : Obligations.CatInitAndChecks := by
  refine ⟨fun s ha => ⟨fun hg => ?_, fun hn => ?_, fun hn hn' hv => ?_⟩,
    fun s ha i hi => ⟨fun hv => ?_, fun hv hx => ?_, fun hv hx hy hcell => ?_⟩⟩
  · exact endCommand_of_ok ((bind_of_ok (requireNotActive_pass ha) _).trans (bind_of_ok (requireGeometry_pass hg) _))
  · exact endCommand_of_error
      ((bind_of_ok (requireNotActive_pass ha) _).trans (bind_of_error (requireGeometry_badN _ hn) _))
  · exact endCommand_of_error
      ((bind_of_ok (requireNotActive_pass ha) _).trans (bind_of_error (requireGeometry_badV ⟨hn, hn'⟩ hv) _))
  · exact exec_column_refused ha (bind_of_error (requireCatValid_refuse hv) _) i hi
  · exact exec_column_refused ha (catCheckX_beyond hv hx) i hi
  · have hxy := catCheckXY_beyond (s := s) hv hx hy
    rcases List.mem_cons.mp hcell with rfl | helim
    · exact exec_catStatus_refused hxy
    · exact exec_elimination_refused ha hxy i helim

end Sys2Proof.Machine
end

section
/-! What the CAT commands do on an existing catalogue (43_catalogue.md R212, R216..R219, R221..R229). -/

namespace Sys2Proof.Machine

/-! Columns. -/

theorem columnAt_of_getElem? {cat : Catalogue} {x : Nat} {c : Column} (h : cat.cols[x]? = some c) :
    columnAt cat x = c := by
  rw [columnAt, List.getD_eq_getElem?_getD, h]
  rfl

theorem unknownCount_eq_one (c : Column) : unknownCount c = 1 ↔ c.hi - c.lo - 1 = 1 := by
  unfold unknownCount
  omega

theorem isUnknown_iff (c : Column) (y : Int) : isUnknown c y = true ↔ c.lo < y ∧ y < c.hi := decide_eq_true_iff

/-! Reads of a column. -/

theorem exec_catCount_ok {s : State} {c : Column} (h : catCheckX s (zext s.arg0) = .ok ())
    (hc : columnAt s.cat (zext s.arg0) = c) :
    exec .catCount s = .next (complete { s with res0 := pattern (unknownCount c) }) := by
  rw [← hc]
  exact endCommand_of_ok (bind_of_ok h _)

theorem exec_catStatus_ok {s : State} {c : Column} (h : catCheckXY s (zext s.arg0) (zext s.arg1) = .ok ())
    (hc : columnAt s.cat (zext s.arg0) = c) :
    exec .catStatus s = .next (complete { s with
      res0 := if c.lo < zext s.arg1 ∧ (zext s.arg1 : Int) < c.hi then 0#32 else 1#32
      res1 := if (c.lo < zext s.arg1 ∧ (zext s.arg1 : Int) < c.hi) ∧ c.hi - c.lo - 1 = 1 then 1#32 else 0#32 }) := by
  refine (endCommand_of_ok (bind_of_ok h _)).trans ?_
  simp only [hc, Bool.and_eq_true, beq_iff_eq, isUnknown_iff, unknownCount_eq_one]

theorem exec_catLimits_ok {s : State} {c : Column} (h : catCheckX s (zext s.arg0) = .ok ())
    (hc : columnAt s.cat (zext s.arg0) = c) :
    exec .catLimits s = .next (complete { s with
      res0 := pattern c.lo
      res1 := pattern c.hi ||| (if c.rsv then 0x80000000#32 else 0#32) }) := by
  rw [← hc]
  exact endCommand_of_ok (bind_of_ok h _)

/-- CAT.CLAMP of an inside y gives the operand's own word back. -/
theorem exec_catClamp_ok {s : State} {c : Column} (h : catCheckX s (zext s.arg0) = .ok ())
    (hc : columnAt s.cat (zext s.arg0) = c) :
    exec .catClamp s = .next
      (if s.arg1.toInt ≤ c.lo then complete { s with res0 := pattern (c.lo + 1) }
       else if c.hi ≤ s.arg1.toInt then complete { s with res0 := pattern (c.hi - 1) }
       else completeNoChange { s with res0 := s.arg1 }) := by
  have hword : pattern (sext s.arg1) = s.arg1 := BitVec.ofInt_toInt
  show execCatClamp s = _
  simp only [execCatClamp, h, hc, hword, apply_ite Host.Outcome.next]
  rfl

/-- Settles O39: the checks pass, and each result is read off the column. -/
theorem catReadResults : Obligations.CatReadResults := by
  intro s lo hi r hv hx hcol
  have hcheck : catCheckX s (zext s.arg0) = .ok () := catCheckX_pass hv hx
  have hc : columnAt s.cat (zext s.arg0) = { lo := lo, hi := hi, rsv := r } := columnAt_of_getElem? hcol
  refine ⟨?_, fun hy => ?_, ?_, ?_⟩
  · refine (exec_catCount_ok hcheck hc).trans ?_
    rfl
  · exact exec_catStatus_ok (catCheckXY_pass hv hx hy) hc
  · exact exec_catLimits_ok hcheck hc
  · exact exec_catClamp_ok hcheck hc

/-! Eliminations. -/

section
variable {cat : Catalogue} {x : Nat} {y : Int} {c : Column} (hc : columnAt cat x = c)
include hc

theorem eliminate_resolved (hr : c.rsv = true) : eliminate cat x y = .error (integrityErr 0x23#8 (.val x)) :=
  bind_of_error (require_neg (by simp [hc, hr]) _) _

theorem eliminate_last (hr : c.rsv = false) (hu : c.hi - c.lo - 1 = 1) :
    eliminate cat x y = .error (integrityErr 0x22#8 (.val x)) := by
  subst hc
  exact (bind_of_ok (require_pos hr _) _).trans
    (bind_of_error (require_neg (not_not.mpr ((unknownCount_eq_one _).mpr hu)) _) _)

/-- On an unresolved column with more than one UNKNOWN cell, Eliminate goes by the side of the cell. -/
theorem eliminate_bySide (hr : c.rsv = false) (hu : c.hi - c.lo - 1 ≠ 1) :
    eliminate cat x y =
      if y = c.lo + 1 then
        .ok (setColumn cat x { c with lo := y }, unknownCount { c with lo := y } == 1)
      else if y = c.hi - 1 then
        .ok (setColumn cat x { c with hi := y }, unknownCount { c with hi := y } == 1)
      else .error (integrityErr 0x21#8 (.val y)) := by
  subst hc
  exact (bind_of_ok (require_pos hr _) _).trans (bind_of_ok (require_pos (mt (unknownCount_eq_one _).mp hu) _) _)

theorem eliminateColumn_resolved (hr : c.rsv = true) :
    eliminateColumn cat x y = .error (integrityErr 0x23#8 (.val x)) :=
  bind_of_error (require_neg (by simp [hc, hr]) _) _

theorem eliminateColumn_known (hr : c.rsv = false) (hy : ¬(c.lo < y ∧ y < c.hi)) :
    eliminateColumn cat x y = .error (integrityErr 0x25#8 (.val y)) := by
  subst hc
  exact (bind_of_ok (require_pos hr _) _).trans (bind_of_error (require_neg hy _) _)

end

section
variable {s : State} (ha : s.cer.phase ≠ .active) (hxy : catCheckXY s (zext s.arg0) (zext s.arg1) = .ok ())
include ha hxy

theorem exec_catElim_of_ok {cat : Catalogue} {crit : Bool}
    (h : eliminate s.cat (zext s.arg0) (zext s.arg1) = .ok (cat, crit)) :
    exec .catElim s = .next (complete { s with cat := cat, res0 := if crit then 1#32 else 0#32 }) :=
  endCommand_of_ok ((bind_of_ok (requireNotActive_pass ha) _).trans ((bind_of_ok hxy _).trans (bind_of_ok h _)))

theorem exec_catElim_of_error {e : Err} (h : eliminate s.cat (zext s.arg0) (zext s.arg1) = .error e) :
    exec .catElim s = .next (raiseError e s) :=
  endCommand_of_error ((bind_of_ok (requireNotActive_pass ha) _).trans ((bind_of_ok hxy _).trans (bind_of_error h _)))

theorem exec_catElimcol_of_ok {cat : Catalogue} (h : eliminateColumn s.cat (zext s.arg0) (zext s.arg1) = .ok cat) :
    exec .catElimcol s = .next (complete { s with cat := cat }) :=
  endCommand_of_ok ((bind_of_ok (requireNotActive_pass ha) _).trans ((bind_of_ok hxy _).trans (bind_of_ok h _)))

theorem exec_catElimcol_of_error {e : Err} (h : eliminateColumn s.cat (zext s.arg0) (zext s.arg1) = .error e) :
    exec .catElimcol s = .next (raiseError e s) :=
  endCommand_of_error ((bind_of_ok (requireNotActive_pass ha) _).trans ((bind_of_ok hxy _).trans (bind_of_error h _)))

end

section
variable {s : State} {lo hi y : Int} (ha : s.cer.phase ≠ .active)
  (hxy : catCheckXY s (zext s.arg0) (zext s.arg1) = .ok ()) (hy : y = zext s.arg1)
  (hc : columnAt s.cat (zext s.arg0) = { lo := lo, hi := hi, rsv := false })
include ha hxy hy hc

/-- CAT.ELIM on an unresolved column: the outcomes of Eliminate, one after the other (43_catalogue.md R216, R223). -/
theorem exec_catElim_unresolved :
    exec .catElim s = .next
      (if hi - lo - 1 = 1 then raiseError (integrityErr 0x22#8 (.val (zext s.arg0))) s
       else if y = lo + 1 then complete { s with
          cat := setColumn s.cat (zext s.arg0) { lo := y, hi := hi, rsv := false }
          res0 := if hi - y - 1 = 1 then 1#32 else 0#32 }
       else if y = hi - 1 then complete { s with
          cat := setColumn s.cat (zext s.arg0) { lo := lo, hi := y, rsv := false }
          res0 := if y - lo - 1 = 1 then 1#32 else 0#32 }
       else raiseError (integrityErr 0x21#8 (.val y)) s) := by
  subst hy
  split
  case isTrue hlast => exact exec_catElim_of_error ha hxy (eliminate_last hc rfl hlast)
  case isFalse hlast =>
    have hside := eliminate_bySide (y := (zext s.arg1 : Int)) hc rfl hlast
    split
    case isTrue hlow =>
      refine (exec_catElim_of_ok ha hxy (hside.trans (if_pos hlow))).trans ?_
      simp only [beq_iff_eq, unknownCount_eq_one]
    case isFalse hlow =>
      split
      case isTrue hhigh =>
        refine (exec_catElim_of_ok ha hxy (hside.trans ((if_neg hlow).trans (if_pos hhigh)))).trans ?_
        simp only [beq_iff_eq, unknownCount_eq_one]
      case isFalse hhigh =>
        exact exec_catElim_of_error ha hxy (hside.trans ((if_neg hlow).trans (if_neg hhigh)))

/-- CAT.ELIMCOL on an unresolved column: only an UNKNOWN cell can be kept (43_catalogue.md R217, R224). -/
theorem exec_catElimcol_unresolved :
    exec .catElimcol s = .next
      (if lo < y ∧ y < hi then complete { s with cat := setColumn s.cat (zext s.arg0) (resolvedColumn y) }
       else raiseError (integrityErr 0x25#8 (.val y)) s) := by
  subst hy
  split
  case isTrue hin =>
    exact exec_catElimcol_of_ok ha hxy
      (eliminateColumn_of_unknown (by rw [hc]) (by rw [hc]; exact (isUnknown_iff _ _).mpr hin))
  case isFalse hin => exact exec_catElimcol_of_error ha hxy (eliminateColumn_known hc rfl hin)

end

/-- Settles O40: both commands refuse a resolved column, and an unresolved one has the outcomes above. -/
theorem catEliminateResults : Obligations.CatEliminateResults := by
  intro s lo hi r ha hv hx hy hcol _ x y
  have hxy : catCheckXY s (zext s.arg0) (zext s.arg1) = .ok () := catCheckXY_pass hv hx hy
  have hc : columnAt s.cat (zext s.arg0) = { lo := lo, hi := hi, rsv := r } := columnAt_of_getElem? hcol
  cases r with
  | true =>
    exact ⟨exec_catElim_of_error ha hxy (eliminate_resolved hc rfl),
      exec_catElimcol_of_error ha hxy (eliminateColumn_resolved hc rfl)⟩
  | false => exact ⟨exec_catElim_unresolved ha hxy rfl hc, exec_catElimcol_unresolved ha hxy rfl hc⟩

/-! Impositions. -/

theorem mem_imposeOffenders {cols : List Column} {b : Int} :
    b ∈ imposeOffenders cols ↔
      ∃ (x : Nat) (c : Column), cols[x]? = some c ∧ c.rsv = false ∧ c.hi - c.lo ≤ 4 ∧ b = x := by
  simp only [imposeOffenders, List.mem_map, List.mem_filter, Prod.exists, List.mem_zipIdx_iff_getElem?, Bool.and_eq_true,
    Bool.not_eq_true', decide_eq_true_eq]
  constructor
  · rintro ⟨c, x, ⟨hx, hr, hle⟩, rfl⟩
    exact ⟨x, c, hx, hr, hle, rfl⟩
  · rintro ⟨x, c, hx, hr, hle, rfl⟩
    exact ⟨c, x, ⟨hx, hr, hle⟩, rfl⟩

/-- The offenders of a tightening that resolves no column are unresolved columns of the catalogue itself. -/
theorem mem_imposeOffenders_map {g : Column → Column} (hg : ∀ c, (g c).rsv = c.rsv) {cols : List Column} {b : Int} :
    b ∈ imposeOffenders (cols.map g) ↔
      ∃ (x : Nat) (c : Column), cols[x]? = some c ∧ c.rsv = false ∧ (g c).hi - (g c).lo ≤ 4 ∧ b = x := by
  rw [mem_imposeOffenders]
  constructor
  · rintro ⟨x, d, hx, hr, hle, hb⟩
    rw [List.getElem?_map, Option.map_eq_some_iff] at hx
    obtain ⟨c, hx, rfl⟩ := hx
    exact ⟨x, c, hx, (hg c).symm.trans hr, hle, hb⟩
  · rintro ⟨x, c, hx, hr, hle, hb⟩
    exact ⟨x, g c, by rw [List.getElem?_map, hx]; rfl, (hg c).trans hr, hle, hb⟩

section
variable {s : State} {g : Column → Column} (ha : s.cer.phase ≠ .active) (hv : s.cat.valid = true)
include ha hv

theorem catImpose_eq : catImpose g s = impose g s.cat >>= fun cat => .ok { s with cat := cat } :=
  (bind_of_ok (requireNotActive_pass ha) _).trans (bind_of_ok (requireCatValid_pass hv) _)

theorem catImpose_ok (h : imposeOffenders (s.cat.cols.map g) = []) :
    endCommand s (catImpose g s) = .next (complete { s with cat := { s.cat with cols := s.cat.cols.map g } }) := by
  rw [catImpose_eq ha hv, impose, h]
  rfl

/-- An imposition with offenders reports one of them; the choice may take a free value (log 7). -/
theorem catImpose_refused (h : imposeOffenders (s.cat.cols.map g) ≠ []) :
    ∃ b ∈ imposeOffenders (s.cat.cols.map g), ∃ k,
      endCommand s (catImpose g s) = .next { raiseError (integrityErr 0x24#8 (.val b)) s with free := k } := by
  obtain ⟨a, rest, hoff⟩ := List.exists_cons_of_ne_nil h
  obtain ⟨b, hb, hinfo⟩ := infoWord_oneOf a rest s.free
  refine ⟨b, hoff ▸ hb, s.free + infoFree (.oneOf a rest), ?_⟩
  rw [catImpose_eq ha hv, impose, hoff]
  show Host.Outcome.next (raiseError (integrityErr 0x24#8 (.oneOf a rest)) s) = _
  simp only [raiseError, integrityErr, hinfo]
  rfl

end

/-- Settles O41: the offenders are exactly the unresolved columns that would stay too narrow. -/
theorem catImposeResults : Obligations.CatImposeResults := by
  intro s g i ha hv hi
  have hexec : exec i s = endCommand s (catImpose g s) := by
    rcases hi with ⟨rfl, rfl⟩ | ⟨rfl, rfl⟩ <;> rfl
  have hg : ∀ c, (g c).rsv = c.rsv := by
    intro c
    rcases hi with ⟨-, rfl⟩ | ⟨-, rfl⟩ <;> dsimp only <;> split <;> rfl
  rw [hexec]
  refine ⟨fun hwide => catImpose_ok ha hv ?_, fun hnarrow => ?_⟩
  · refine List.eq_nil_iff_forall_not_mem.mpr fun b hb => ?_
    obtain ⟨x, c, hx, hr, hle, -⟩ := (mem_imposeOffenders_map hg).mp hb
    exact absurd (hwide c (List.mem_of_getElem? hx) hr) (not_lt.mpr hle)
  · obtain ⟨c, hc, hr, hle⟩ := hnarrow
    obtain ⟨x, hx⟩ := List.getElem?_of_mem hc
    have hmem : (x : Int) ∈ imposeOffenders (s.cat.cols.map g) :=
      (mem_imposeOffenders_map hg).mpr ⟨x, c, hx, hr, hle, rfl⟩
    obtain ⟨b, hb, k, hout⟩ := catImpose_refused ha hv (List.ne_nil_of_mem hmem)
    obtain ⟨z, d, hz, hdr, hdle, rfl⟩ := (mem_imposeOffenders_map hg).mp hb
    exact ⟨z, d, k, hz, hdr, hdle, hout⟩

/-! The frontier list. -/

theorem cols_zipIdx (cat : Catalogue) :
    cat.cols.zipIdx = (List.range cat.cols.length).map (fun x => (columnAt cat x, x)) := by
  refine List.ext_getElem (by simp) fun x hx _ => ?_
  simp [columnAt_eq_getElem (cat := cat) (x := x) (by simpa using hx)]

/-- GenExtreme goes through the column numbers in ascending order. -/
theorem genExtreme_eq (low high : Bool) (cat : Catalogue) :
    genExtreme low high cat
      = (List.range cat.cols.length).flatMap (fun x => columnFrontier low high (columnAt cat x) x) := by
  rw [genExtreme, cols_zipIdx, List.flatMap_map]

theorem columnFrontier_eq (low high : Bool) (c : Column) (x : Nat) :
    columnFrontier low high c x =
      if c.rsv then []
      else (if low then [(x, c.lo + 1)] else [])
        ++ (if high ∧ ¬(low ∧ c.hi - 1 = c.lo + 1) then [(x, c.hi - 1)] else []) := by
  simp only [columnFrontier, Bool.and_eq_true, Bool.not_eq_true', Bool.and_eq_false_iff, decide_eq_false_iff_not,
    not_and_or, Bool.not_eq_true]

theorem exec_catExtreme_ok {s : State} {cells : List (Nat × Int)} (hv : s.cat.valid = true)
    (hcells : genExtreme (s.arg0.getLsbD 0) (s.arg0.getLsbD 1) s.cat = cells) (hp : Pushable s (cellElements cells)) :
    exec .catExtreme s = .next (complete { s with
      sout := s.sout ++ cellElements cells
      res0 := BitVec.ofNat 32 cells.length }) := by
  subst hcells
  exact endCommand_of_ok ((bind_of_ok (requireCatValid_pass hv) _).trans (bind_of_ok hp.seqPushAll_eq _))

/-- Settles O42: GenExtreme column by column is the list of the statement, and it fits. -/
theorem catExtremeResult : Obligations.CatExtremeResult := by
  intro s hv hlen low high cells hp
  refine exec_catExtreme_ok hv ?_ hp
  rw [genExtreme_eq, hlen]
  exact congrArg (List.flatMap · _) (funext fun x => columnFrontier_eq low high (columnAt s.cat x) x)

end Sys2Proof.Machine
end

section
/-! The slots around a point: their order, the value-cache key that determines them (44_spline.md R262, R263), and the
nearest bone (R261). -/

namespace Sys2Proof.Machine

/-! The slots around a point. -/

/-- The two inner slots of a query point are present, on either side of it, and the outer ones are beyond them. -/
structure Around (x : Nat) (sr : Surroundings) (p q : Nat × Int) : Prop where
  l1 : sr.l1 = some p
  r1 : sr.r1 = some q
  left : p.1 < x
  right : x < q.1
  l2 : ∀ a, sr.l2 = some a → a.1 < p.1
  r2 : ∀ b, sr.r2 = some b → q.1 < b.1

/-- A point of the grid of N columns and V values. -/
def InGrid (n v : Nat) (p : Nat × Int) : Prop := p.1 < n ∧ 0 ≤ p.2 ∧ p.2 < v

theorem surroundings_around {bones : List (Option Int)} {x : Nat} {p q : Nat × Int}
    (hl : (surroundings bones x).l1 = some p) (hr : (surroundings bones x).r1 = some q) :
    Around x (surroundings bones x) p q := by
  obtain ⟨-, hall⟩ := surroundingsAndInspection
  obtain ⟨h1, h2, h3, h4, -⟩ := hall bones x
  refine ⟨hl, hr, ((h1 _ _).mp hl).1, ((h2 _ _).mp hr).1, fun a ha => ?_, fun b hb => ?_⟩
  · obtain ⟨k, z, hk, hak, -⟩ := (h3 _ _).mp ha
    cases hl.symm.trans hk
    exact hak
  · obtain ⟨k, z, hk, hkb, -⟩ := (h4 _ _).mp hb
    cases hr.symm.trans hk
    exact hkb

/-- Every slot that is not null holds a bone. -/
theorem bone_of_slot {bones : List (Option Int)} {x : Nat} {p : Nat × Int} (h : some p ∈ slots (surroundings bones x)) :
    boneAt bones p.1 = some p.2 := by
  have hmem {l : List (Nat × Int)} {i : Nat} (hi : some p = l[i]?) : p ∈ l := List.mem_of_getElem? hi.symm
  simp only [slots, surroundings, List.mem_cons, List.not_mem_nil, or_false] at h
  apply mem_bonePoints.mp
  rcases h with h | h | h | h
  · exact List.mem_of_mem_filter (List.mem_reverse.mp (hmem h))
  · exact List.mem_of_mem_filter (List.mem_reverse.mp (hmem h))
  · exact List.mem_of_mem_filter (hmem h)
  · exact List.mem_of_mem_filter (hmem h)

theorem lt_length_of_bone {bones : List (Option Int)} {x : Nat} {y : Int} (h : boneAt bones x = some y) :
    x < bones.length := by
  by_contra hx
  simp [boneAt, List.getD_eq_getElem?_getD, List.getElem?_eq_none (Nat.le_of_not_lt hx)] at h

/-- At a non-bone of a sound bone array the inner slots are present, and every slot lies in the grid. -/
theorem BonesOk.around {n v x : Nat} {bones : List (Option Int)} (h : BonesOk n v bones) (hx : x < n)
    (hnone : boneAt bones x = none) :
    ∃ p q, Around x (surroundings bones x) p q ∧ ∀ a, some a ∈ slots (surroundings bones x) → InGrid n v a := by
  obtain ⟨-, hall⟩ := surroundingsAndInspection
  obtain ⟨-, -, -, -, hinner⟩ := hall bones x
  obtain ⟨hl, hr⟩ := hinner n v h hx hnone
  obtain ⟨p, hp⟩ := Option.ne_none_iff_exists'.mp hl
  obtain ⟨q, hq⟩ := Option.ne_none_iff_exists'.mp hr
  refine ⟨p, q, surroundings_around hp hq, fun a ha => ?_⟩
  obtain ⟨hlen, -, -, hrange⟩ := h
  have hbone := bone_of_slot ha
  exact ⟨hlen ▸ lt_length_of_bone hbone, hrange _ _ hbone⟩

/-! Flattened slots. -/

theorem flattenSlot_lt {n v : Nat} {p q : Nat × Int} (hp : InGrid n v p) (hq : InGrid n v q) (h : p.1 < q.1) :
    flattenSlot n v (some p) < flattenSlot n v (some q) := by
  obtain ⟨-, -, hpv⟩ := hp
  obtain ⟨-, hq0, -⟩ := hq
  have hmul : ((p.1 : Int) + 1) * v ≤ q.1 * v := Int.mul_le_mul_of_nonneg_right (by omega) (by omega)
  show (p.1 : Int) * v + p.2 < q.1 * v + q.2
  linarith

theorem flattenSlot_lt_null {n v : Nat} {p : Nat × Int} (hp : InGrid n v p) :
    flattenSlot n v (some p) < flattenSlot n v none := by
  obtain ⟨hn, -, hpv⟩ := hp
  have hmul : ((p.1 : Int) + 1) * v ≤ n * v := Int.mul_le_mul_of_nonneg_right (by omega) (by omega)
  show (p.1 : Int) * v + p.2 < n * v
  linarith

theorem flattenSlot_nonneg {n v : Nat} {o : Option (Nat × Int)} (h : ∀ p, o = some p → InGrid n v p) :
    0 ≤ flattenSlot n v o := by
  cases o with
  | none => exact mul_nonneg (by omega) (by omega)
  | some p =>
    obtain ⟨-, h0, -⟩ := h p rfl
    exact add_nonneg (mul_nonneg (by omega) (by omega)) h0

theorem flattenSlot_le_null {n v : Nat} {o : Option (Nat × Int)} (h : ∀ p, o = some p → InGrid n v p) :
    flattenSlot n v o ≤ flattenSlot n v none := by
  cases o with
  | none => exact le_refl _
  | some p => exact (flattenSlot_lt_null (h p rfl)).le

/-- A flattened slot gives the slot back. -/
theorem flattenSlot_inj {n v : Nat} {o o' : Option (Nat × Int)} (h : ∀ p, o = some p → InGrid n v p)
    (h' : ∀ p, o' = some p → InGrid n v p) (heq : flattenSlot n v o = flattenSlot n v o') : o = o' := by
  cases o with
  | none =>
    cases o' with
    | none => rfl
    | some q => exact absurd heq (flattenSlot_lt_null (h' q rfl)).ne'
  | some p =>
    cases o' with
    | none => exact absurd heq (flattenSlot_lt_null (h p rfl)).ne
    | some q =>
      rcases Nat.lt_trichotomy p.1 q.1 with hlt | hfst | hlt
      · exact absurd heq (flattenSlot_lt (h p rfl) (h' q rfl) hlt).ne
      · have hsnd : (p.1 : Int) * v + p.2 = q.1 * v + q.2 := heq
        rw [hfst] at hsnd
        exact congrArg some (Prod.ext hfst (by omega))
      · exact absurd heq (flattenSlot_lt (h' q rfl) (h p rfl) hlt).ne'

/-! The key. -/

/-- Digits below the base are read back from the packed key. -/
theorem packKeys_inj {base : Int} {ks ls : List Int} (hlen : ks.length = ls.length)
    (hk : ∀ k ∈ ks, 0 ≤ k ∧ k < base) (hl : ∀ k ∈ ls, 0 ≤ k ∧ k < base) (h : packKeys base ks = packKeys base ls) :
    ks = ls := by
  induction ks generalizing ls with
  | nil => exact (List.length_eq_zero_iff.mp hlen.symm).symm
  | cons k ks ih =>
    cases ls with
    | nil => cases hlen
    | cons l ls =>
      obtain ⟨⟨hk0, hkb⟩, hks⟩ := List.forall_mem_cons.mp hk
      obtain ⟨⟨hl0, hlb⟩, hls⟩ := List.forall_mem_cons.mp hl
      simp only [packKeys] at h
      have hhead : k = l := by
        have hmod := congrArg (· % base) h
        simpa [Int.emod_eq_of_lt hk0 hkb, Int.emod_eq_of_lt hl0 hlb] using hmod
      subst hhead
      have htail := Int.eq_of_mul_eq_mul_left (by omega : base ≠ 0) (Int.add_left_cancel h)
      rw [ih (by simpa using hlen) hks hls htail]

/-- The flattened slots in ascending order: the left ones, the right ones, the null ones. -/
theorem sortedSlots {n v x : Nat} {sr : Surroundings} {p q : Nat × Int} (h : Around x sr p q)
    (hin : ∀ a, some a ∈ slots sr → InGrid n v a) :
    ((slots sr).map (flattenSlot n v)).insertionSort (· ≤ ·) =
      if sr.l2 = none then
        [flattenSlot n v (some p), flattenSlot n v (some q), flattenSlot n v sr.r2, flattenSlot n v none]
      else [flattenSlot n v sr.l2, flattenSlot n v (some p), flattenSlot n v (some q), flattenSlot n v sr.r2] := by
  obtain ⟨hl1, hr1, hleft, hright, hl2, hr2⟩ := h
  have hp : InGrid n v p := hin p (by simp [slots, hl1])
  have hq : InGrid n v q := hin q (by simp [slots, hr1])
  have hpq := (flattenSlot_lt hp hq (by omega)).le
  have hqr : flattenSlot n v (some q) ≤ flattenSlot n v sr.r2 := by
    cases hr : sr.r2 with
    | none => exact (flattenSlot_lt_null hq).le
    | some b => exact (flattenSlot_lt hq (hin b (by simp [slots, hr])) (hr2 b hr)).le
  have hr2n : flattenSlot n v sr.r2 ≤ flattenSlot n v none :=
    flattenSlot_le_null fun b hb => hin b (by simp [slots, hb])
  have hsorted := List.pairwise_insertionSort (α := Int) (· ≤ ·) ((slots sr).map (flattenSlot n v))
  have hperm := List.perm_insertionSort (α := Int) (· ≤ ·) ((slots sr).map (flattenSlot n v))
  simp only [slots, hl1, hr1, List.map_cons, List.map_nil] at hsorted hperm ⊢
  refine List.Perm.eq_of_pairwise' hsorted ?_ (hperm.trans ?_)
  · split
    · simp only [List.pairwise_cons, List.forall_mem_cons, List.not_mem_nil, false_imp_iff, implies_true, List.Pairwise.nil,
        and_true]
      omega
    · rename_i hne
      obtain ⟨a, ha⟩ := Option.ne_none_iff_exists'.mp hne
      have hap := (flattenSlot_lt (hin a (by simp [slots, ha])) hp (hl2 a ha)).le
      rw [← ha] at hap
      simp only [List.pairwise_cons, List.forall_mem_cons, List.not_mem_nil, false_imp_iff, implies_true, List.Pairwise.nil,
        and_true]
      omega
  · split
    · rename_i hnone
      rw [hnone]
      exact List.perm_append_comm (l₁ := [flattenSlot n v none])
    · exact .refl _

/-- Given x, the key determines the surroundings (44_spline.md R263). -/
theorem surroundings_of_key {n v x : Nat} {sr sr' : Surroundings} {p q p' q' : Nat × Int} (h : Around x sr p q)
    (h' : Around x sr' p' q') (hin : ∀ a, some a ∈ slots sr → InGrid n v a)
    (hin' : ∀ a, some a ∈ slots sr' → InGrid n v a) (hkey : surroundKeyOf n v sr = surroundKeyOf n v sr') :
    sr = sr' := by
  have hrange {sr : Surroundings} (hin : ∀ a, some a ∈ slots sr → InGrid n v a) :
      ∀ k ∈ ((slots sr).map (flattenSlot n v)).insertionSort (· ≤ ·), 0 ≤ k ∧ k < (n : Int) * v + 1 := by
    intro k hk
    obtain ⟨o, ho, rfl⟩ := List.mem_map.mp ((List.mem_insertionSort (· ≤ ·)).mp hk)
    have hgrid : ∀ a, o = some a → InGrid n v a := fun a ha => hin a (ha ▸ ho)
    exact ⟨flattenSlot_nonneg hgrid, Int.lt_add_one_of_le (flattenSlot_le_null hgrid)⟩
  have hsort := packKeys_inj (by simp only [List.length_insertionSort, slots, List.length_map, List.length_cons])
    (hrange hin) (hrange hin') hkey
  rw [sortedSlots h hin, sortedSlots h' hin'] at hsort
  have slot {sr : Surroundings} (hin : ∀ a, some a ∈ slots sr → InGrid n v a) {o : Option (Nat × Int)}
      (ho : o ∈ slots sr) : ∀ a, o = some a → InGrid n v a := fun a ha => hin a (ha ▸ ho)
  obtain ⟨l2, l1, r1, r2⟩ := sr
  obtain ⟨l2', l1', r1', r2'⟩ := sr'
  obtain ⟨rfl, rfl, hleft, hright, hl2, hr2⟩ := h
  obtain ⟨rfl, rfl, hleft', hright', hl2', hr2'⟩ := h'
  have hp := slot hin (o := some p) (by simp [slots])
  have hq := slot hin (o := some q) (by simp [slots])
  have hp' := slot hin' (o := some p') (by simp [slots])
  have hq' := slot hin' (o := some q') (by simp [slots])
  have hinj := @flattenSlot_inj n v
  dsimp only at hsort hl2 hl2'
  split at hsort <;> split at hsort <;> simp only [List.cons.injEq, and_true] at hsort
  · rename_i hn hn'
    obtain ⟨h1, h2, h3⟩ := hsort
    rw [hn, hn', hinj hp hp' h1, hinj hq hq' h2, hinj (slot hin (by simp [slots])) (slot hin' (by simp [slots])) h3]
  · cases hinj hq hp' hsort.2.1
    omega
  · cases hinj hp hq' hsort.2.1
    omega
  · obtain ⟨h1, h2, h3, h4⟩ := hsort
    rw [hinj (slot hin (by simp [slots])) (slot hin' (by simp [slots])) h1, hinj hp hp' h2, hinj hq hq' h3,
      hinj (slot hin (by simp [slots])) (slot hin' (by simp [slots])) h4]

/-! The nearest bone. -/

theorem natCast_absDist (x i : Nat) : (absDist x i : Int) = |(x : Int) - i| := by
  unfold absDist
  rw [abs_eq_max_neg]
  omega

/-- The bone b is nearer to x than c, or equally near and not right of it. -/
def NotBeaten (x b c : Nat) : Prop := absDist x b < absDist x c ∨ absDist x b = absDist x c ∧ b ≤ c

theorem NotBeaten.trans {x a b c : Nat} (h : NotBeaten x a b) (k : NotBeaten x b c) : NotBeaten x a c := by
  unfold NotBeaten at *
  omega

theorem NotBeaten.antisymm {x a b : Nat} (h : NotBeaten x a b) (k : NotBeaten x b a) : a = b := by
  unfold NotBeaten at *
  omega

/-- The fold over ascending indices finds the one that no other beats. -/
theorem foldl_nearerBone {x a : Nat} {l : List Nat} (h : (a :: l).Pairwise (· < ·)) :
    ∃ b ∈ a :: l, l.foldl (nearerBone x) (some a) = some b ∧ ∀ c ∈ a :: l, NotBeaten x b c := by
  induction l generalizing a with
  | nil => exact ⟨a, by simp, rfl, by simp [NotBeaten]⟩
  | cons c l ih =>
    obtain ⟨ha, hcl⟩ := List.pairwise_cons.mp h
    obtain ⟨hac, hal⟩ := List.forall_mem_cons.mp ha
    obtain ⟨-, hl⟩ := List.pairwise_cons.mp hcl
    by_cases hnear : absDist x c < absDist x a
    · obtain ⟨b, hb, hfold, hbest⟩ := ih hcl
      refine ⟨b, List.mem_cons_of_mem _ hb, by simpa [nearerBone, hnear] using hfold, ?_⟩
      exact List.forall_mem_cons.mpr ⟨(hbest c (by simp)).trans (.inl hnear), hbest⟩
    · obtain ⟨b, hb, hfold, hbest⟩ := ih (List.pairwise_cons.mpr ⟨hal, hl⟩)
      obtain ⟨hba, hbl⟩ := List.forall_mem_cons.mp hbest
      refine ⟨b, ?_, by simpa [nearerBone, hnear] using hfold, ?_⟩
      · exact List.mem_cons.mpr ((List.mem_cons.mp hb).imp_right (List.mem_cons_of_mem _))
      · have hbc : NotBeaten x b c := hba.trans (by unfold NotBeaten; omega)
        exact List.forall_mem_cons.mpr ⟨hba, List.forall_mem_cons.mpr ⟨hbc, hbl⟩⟩

theorem mem_boneIndices {bones : List (Option Int)} {i : Nat} :
    i ∈ (bonePoints bones).map Prod.fst ↔ boneAt bones i ≠ none := by
  rw [List.mem_map, Option.ne_none_iff_exists']
  constructor
  · rintro ⟨p, hp, rfl⟩
    exact ⟨p.2, mem_bonePoints.mp hp⟩
  · rintro ⟨y, hy⟩
    exact ⟨(i, y), mem_bonePoints.mpr hy, rfl⟩

theorem nearestBone_eq_some_iff {bones : List (Option Int)} {x b : Nat} :
    nearestBone bones x = some b ↔ boneAt bones b ≠ none ∧ ∀ c, boneAt bones c ≠ none → NotBeaten x b c := by
  have hsorted : ((bonePoints bones).map Prod.fst).Pairwise (· < ·) := List.pairwise_map.mpr (bonePoints_sorted bones)
  simp only [nearestBone, ← mem_boneIndices]
  generalize (bonePoints bones).map Prod.fst = l at hsorted ⊢
  cases l with
  | nil => simp
  | cons a l =>
    obtain ⟨d, hd, hfold, hbest⟩ := foldl_nearerBone (x := x) hsorted
    rw [List.foldl_cons, show nearerBone x none a = some a from rfl, hfold, Option.some.injEq]
    constructor
    · rintro rfl
      exact ⟨hd, hbest⟩
    · rintro ⟨hb, hb'⟩
      exact (hbest b hb).antisymm (hb' d hd)

/-- Settles O50: the fold over the bones keeps the one that none beats; and the sorted slots are read back from the key,
the left ones below x. -/
theorem nearestBoneAndKeyLaws : Obligations.NearestBoneAndKeyLaws := by
  refine ⟨fun bones x b => ?_, fun n v x bones bones' hx hb hb' hnone hnone' hkey => ?_⟩
  · rw [nearestBone_eq_some_iff]
    simp only [NotBeaten, ← natCast_absDist, Nat.cast_lt, Nat.cast_inj]
  · obtain ⟨p, q, h, hin⟩ := hb.around hx hnone
    obtain ⟨p', q', h', hin'⟩ := hb'.around hx hnone'
    exact surroundings_of_key h h' hin hin' hkey

end Sys2Proof.Machine
end

section
/-! The value cache: a prediction is that of the current bones whatever the cache holds, and what it stores is right at
every bone array with the same key (44_spline.md R257, R263, R266, R268). -/

namespace Sys2Proof.Machine

/-! Predictions without the cache. -/

theorem purePredict_bone {spl : Spline} {x : Nat} {y : Int} (h : boneAt spl.bones x = some y) :
    purePredict spl x = y := by
  simp only [purePredict, h]

/-- At a non-bone with both inner slots: the method, the filters in order, the final conversion. -/
theorem purePredict_nonbone {spl : Spline} {x : Nat} {l1 r1 : Nat × Int} {r : Num} (hb : boneAt spl.bones x = none)
    (hl : (surroundings spl.bones x).l1 = some l1) (hr : (surroundings spl.bones x).r1 = some r1)
    (hm : methodValue spl.cfg (surroundings spl.bones x) l1 r1 x = some r) :
    purePredict spl x = ((filterChain spl.cfg).foldl (applyFilter spl.v l1 r1) r).finalInt := by
  simp only [purePredict, hb, predictFrom, hl, hr, hm, Option.map_some]

/-- Every method that CheckMethod accepts has a value. -/
theorem methodValue_of_methodOk {cfg : Word} (h : MethodOk cfg) (sr : Surroundings) (l1 r1 : Nat × Int) (x : Nat) :
    ∃ r, methodValue cfg sr l1 r1 x = some r := by
  obtain ⟨hfive, -, hidw⟩ := h
  unfold methodValue
  interval_cases h : methodField cfg
  · exact ⟨_, rfl⟩
  · exact ⟨_, rfl⟩
  · exact ⟨_, rfl⟩
  · exact ⟨_, rfl⟩
  · exact ⟨_, rfl⟩
  · exact ⟨_, if_pos (hidw rfl).2⟩

/-- The prediction depends on the bones, the geometry and the configuration alone (44_spline.md R259). -/
theorem purePredict_congr {a b : Spline} (hn : b.n = a.n) (hv : b.v = a.v) (hcfg : b.cfg = a.cfg)
    (hbones : b.bones = a.bones) (x : Nat) : purePredict b x = purePredict a x := by
  unfold purePredict
  rw [hn, hv, hcfg, hbones]

/-- Two sound bone arrays that give a non-bone the same key give it the same prediction. -/
theorem purePredict_of_key {spl : Spline} {x : Nat} {bones : List (Option Int)} (hm : MethodOk spl.cfg) (hx : x < spl.n)
    (hb : BonesOk spl.n spl.v spl.bones) (hb' : BonesOk spl.n spl.v bones) (hnone : boneAt spl.bones x = none)
    (hnone' : boneAt bones x = none)
    (hkey : surroundKeyOf spl.n spl.v (surroundings bones x) = surroundKey spl x) :
    purePredict spl x = purePredict { spl with bones := bones } x := by
  obtain ⟨p, q, h, -⟩ := hb.around hx hnone
  have hsame := nearestBoneAndKeyLaws.2 spl.n spl.v x bones spl.bones hx hb' hb hnone' hnone hkey
  obtain ⟨r, hr⟩ := methodValue_of_methodOk hm (surroundings spl.bones x) p q x
  rw [purePredict_nonbone hnone h.l1 h.r1 hr,
    purePredict_nonbone (spl := { spl with bones := bones }) hnone' (hsame ▸ h.l1) (hsame ▸ h.r1) (hsame ▸ hr)]

/-! Entries of the value cache. -/

/-- What CacheValuesOk asks of one entry. -/
def RightEntry (spl : Spline) (e : VcEntry) : Prop :=
  ∀ bones, e.x < spl.n → BonesOk spl.n spl.v bones → boneAt bones e.x = none →
    surroundKeyOf spl.n spl.v (surroundings bones e.x) = e.key → e.value = purePredict { spl with bones := bones } e.x

theorem RightEntry.congr {a b : Spline} {e : VcEntry} (h : RightEntry a e) (hn : b.n = a.n) (hv : b.v = a.v)
    (hcfg : b.cfg = a.cfg) : RightEntry b e := by
  intro bones
  have hsame : purePredict { b with bones := bones } e.x = purePredict { a with bones := bones } e.x :=
    purePredict_congr (a := { a with bones := bones }) (b := { b with bones := bones }) hn hv hcfg rfl e.x
  rw [hsame, hn, hv]
  exact h bones

/-- A Spline whose cache holds no entry that was not there before. -/
theorem CacheValuesOk.of_subset {a b : Spline} (h : CacheValuesOk a) (hvalid : b.valid = a.valid) (hn : b.n = a.n)
    (hv : b.v = a.v) (hcfg : b.cfg = a.cfg) (hvc : ∀ e ∈ b.vc, e ∈ a.vc) : CacheValuesOk b := fun hb e he =>
  RightEntry.congr (h (hvalid ▸ hb) e (hvc e he)) hn hv hcfg

theorem cacheValuesOk_of_empty {spl : Spline} (h : spl.vc = []) : CacheValuesOk spl := fun _ e he => by
  rw [h] at he
  exact absurd he List.not_mem_nil

theorem mem_vcStore {e f : VcEntry} {l : List VcEntry} (h : f ∈ vcStore e l) : f = e ∨ f ∈ l := by
  unfold vcStore at h
  split at h
  · exact .inl (List.mem_singleton.mp h)
  · exact mem_vcInsert e f l h

theorem mem_of_vcLookup {vc : List VcEntry} {k p : Int} {x : Nat} (h : vcLookup vc k x = some p) :
    ∃ e ∈ vc, e.key = k ∧ e.x = x ∧ e.value = p := by
  obtain ⟨e, he, hp⟩ := Option.map_eq_some_iff.mp h
  have hkx := List.find?_some he
  simp only [Bool.and_eq_true, beq_iff_eq] at hkx
  exact ⟨e, List.mem_of_find?_eq_some he, hkx.1, hkx.2, hp⟩

/-! Predictions with the cache. -/

/-- On a sound Spline with right cached predictions, Predict gives the prediction of the current bones. -/
theorem predict_fst {spl : Spline} {x : Nat} (hvalid : spl.valid = true) (hok : SplineOk spl) (hc : CacheValuesOk spl)
    (hx : x < spl.n) : (predict spl x).1 = purePredict spl x := by
  unfold predict
  split
  · rename_i y hy
    exact (purePredict_bone hy).symm
  · rename_i hnone
    obtain ⟨-, -, hb, -⟩ := hok hvalid
    split
    · split
      · rename_i p hp
        obtain ⟨e, he, hkey, rfl, rfl⟩ := mem_of_vcLookup hp
        exact hc hvalid e he spl.bones hx hb hnone hkey.symm
      · rfl
    · rfl

/-- What a prediction on a sound Spline stores is right, whatever its cache held. -/
theorem predict_cacheValuesOk {spl : Spline} (x : Nat) (hok : SplineOk spl) (hc : CacheValuesOk spl) :
    CacheValuesOk (predict spl x).2 := by
  unfold predict
  split
  · exact hc
  · rename_i hnone
    split
    · split
      · exact hc
      · intro hvalid e he
        obtain ⟨-, hm, hb, -⟩ := hok hvalid
        refine RightEntry.congr (a := spl) ?_ rfl rfl rfl
        rcases mem_vcStore he with rfl | he
        · exact fun bones hx hb' hnone' hkey => purePredict_of_key hm hx hb hb' hnone hnone' hkey
        · exact hc hvalid e he
    · exact hc

/-- A prediction changes the value cache only, and keeps the Spline sound and its cached predictions right. -/
theorem predict_keeps {spl : Spline} (x : Nat) (hok : SplineOk spl) (hc : CacheValuesOk spl) :
    ∃ vc, (predict spl x).2 = { spl with vc := vc } ∧ SplineOk { spl with vc := vc }
      ∧ CacheValuesOk { spl with vc := vc } := by
  obtain ⟨vc, hvc⟩ := predict_frame spl x
  exact ⟨vc, hvc, hok, hvc ▸ predict_cacheValuesOk x hok hc⟩

/-! The commands that predict. -/

/-- Pushing the predictions of a list of points: those of the current bones, in order. -/
theorem predictPush_pure {xs : List Nat} {spl : Spline} {q : List Int} (hvalid : spl.valid = true) (hok : SplineOk spl)
    (hc : CacheValuesOk spl) (hxs : ∀ x ∈ xs, x < spl.n) (hlen : q.length + xs.length ≤ Config.seqCap)
    (hrange : ∀ x ∈ xs, inElemRange (purePredict spl x)) :
    ∃ vc, predictPush xs spl q = ({ spl with vc := vc }, .ok (q ++ xs.map (purePredict spl))) := by
  induction xs generalizing spl q with
  | nil => exact ⟨spl.vc, by simp [predictPush]⟩
  | cons x xs ih =>
    obtain ⟨hx, hxs⟩ := List.forall_mem_cons.mp hxs
    obtain ⟨hr, hrange⟩ := List.forall_mem_cons.mp hrange
    obtain ⟨vc, hvc, hok', hc'⟩ := predict_keeps x hok hc
    have hlen' : (q ++ [purePredict spl x]).length + xs.length ≤ Config.seqCap := by
      simp only [List.length_append, List.length_cons, List.length_nil] at hlen ⊢
      omega
    have hpush : seqPush q (purePredict spl x) = .ok (q ++ [purePredict spl x]) :=
      seqPush_ok (by simp only [List.length_cons] at hlen; omega) hr
    obtain ⟨vc', hrest⟩ := ih (spl := { spl with vc := vc }) hvalid hok' hc' hxs hlen' hrange
    refine ⟨vc', ?_⟩
    simp only [predictPush, predict_fst hvalid hok hc hx, hpush, hvc, hrest, List.map_cons, List.append_assoc,
      List.singleton_append]
    rfl

/-- Settles O45: each command passes its checks, and its predictions are those of the current bones. -/
theorem predictionCommands : Obligations.PredictionCommands := by
  intro s hvalid hok hc x
  obtain ⟨vc, hvc, -, -⟩ := predict_keeps x hok hc
  refine ⟨fun hx => ⟨vc, ?_⟩, fun hx hy => ⟨vc, ?_⟩, fun hp => ?_⟩
  · have hbone : (if (boneAt s.spl.bones x).isSome then 1#32 else 0#32)
        = if boneAt s.spl.bones x = none then 0#32 else 1#32 := by
      cases boneAt s.spl.bones x <;> rfl
    rw [← hvc, ← predict_fst hvalid hok hc hx, ← hbone]
    exact endCommand_of_ok (bind_of_ok (splCheckX_pass hvalid hx) _)
  · rw [← hvc, ← predict_fst hvalid hok hc hx]
    exact endCommand_of_ok ((bind_of_ok (splCheckX_pass hvalid hx) _).trans (bind_of_ok (require_pos hy _) _))
  · obtain ⟨vc', hall⟩ := predictPush_pure hvalid hok hc (xs := List.range s.spl.n) (q := s.sout)
      (fun x hx => List.mem_range.mp hx) (by simpa using hp.1) (fun x hx => hp.2 _ (List.mem_map_of_mem hx))
    refine ⟨vc', ?_⟩
    show execSplPredall s = _
    simp only [execSplPredall, requireSplValid_pass hvalid, hall]

end Sys2Proof.Machine
end

section
/-! SPL.INIT and SPL.SET (44_spline.md R240, R241, R260, R270). -/

namespace Sys2Proof.Machine

/-! SPL.INIT. -/

theorem checkMethod_pass {cfg : Word} (h : MethodOk cfg) : checkMethod cfg = .ok () := (require_ok _ _ _).mpr h

theorem checkCache_pass {cfg : Word} (h : locpolField cfg ≤ 2) : checkCache cfg = .ok () := require_pos h _

theorem freshSpline_vc (n v : Nat) (cfg cache : Word) (v0 v1 : Int) : (freshSpline n v cfg cache v0 v1).vc = [] := by
  show (if vcenField cache then vcDrop _ (if vcenField cache then vcDrop _ [] else [])
    else if vcenField cache then vcDrop _ [] else []) = []
  cases vcenField cache <;> rfl

section
variable {s : State} (ha : s.cer.phase ≠ .active) (hg : GeometryOk s.cfgN.toNat s.cfgV.toNat) (hm : MethodOk s.cfgMethod)
  (hc : locpolField s.cfgCache ≤ 2)
include ha hg hm hc

/-- Behind the checks that pass, SPL.INIT is decided by the endpoint values. -/
theorem exec_splInit_ends {r : Except Err (Int × Int)}
    (he : endpointValues (endptField s.cfgMethod) s.cfgV.toNat s.arg1.toNat s.arg2.toNat = r) :
    exec .splInit s = endCommand s (r >>= fun w =>
      .ok { s with spl := freshSpline s.cfgN.toNat s.cfgV.toNat s.cfgMethod s.cfgCache w.1 w.2 }) := by
  subst he
  exact congrArg (endCommand s) ((bind_of_ok (requireNotActive_pass ha) _).trans
    ((bind_of_ok (requireGeometry_pass hg) _).trans
      ((bind_of_ok (checkMethod_pass hm) _).trans (bind_of_ok (checkCache_pass hc) _))))

/-- The Spline that SPL.INIT makes of its endpoint values. -/
theorem exec_splInit_made {v0 v1 : Int}
    (he : endpointValues (endptField s.cfgMethod) s.cfgV.toNat s.arg1.toNat s.arg2.toNat = .ok (v0, v1)) :
    ∃ spl : Spline, exec .splInit s = .next (complete { s with spl := spl })
      ∧ spl.valid = true ∧ spl.n = s.cfgN.toNat ∧ spl.v = s.cfgV.toNat ∧ spl.cfg = s.cfgMethod
      ∧ spl.bones = ((List.replicate s.cfgN.toNat none).set 0 (some v0)).set (s.cfgN.toNat - 1) (some v1)
      ∧ spl.locPol = locPolOf (locpolField s.cfgCache) ∧ spl.vcEn = vcenField s.cfgCache ∧ spl.vc = []
      ∧ SplineOk spl := by
  obtain ⟨h0, h1⟩ := endpointValues_ok hg.2.2.1 he
  exact ⟨_, exec_splInit_ends ha hg hm hc he, rfl, rfl, rfl, rfl, rfl, rfl, rfl, freshSpline_vc ..,
    freshSpline_ok s.cfgCache hg hm h0 h1⟩

theorem exec_splInit_refused {e : Err}
    (he : endpointValues (endptField s.cfgMethod) s.cfgV.toNat s.arg1.toNat s.arg2.toNat = .error e) :
    exec .splInit s = .next (raiseError e s) := exec_splInit_ends ha hg hm hc he

end

/-- Literal endpoints are checked, the first one first. -/
theorem endpointValues_literal {v e0 e1 : Nat} :
    (e0 < v → e1 < v → endpointValues 3 v e0 e1 = .ok (e0, e1))
      ∧ (v ≤ e0 → endpointValues 3 v e0 e1 = .error (domainErr 0x03#8 (.val e0)))
      ∧ (e0 < v → v ≤ e1 → endpointValues 3 v e0 e1 = .error (domainErr 0x03#8 (.val e1))) :=
  ⟨fun h0 h1 => (bind_of_ok (require_pos h0 _) _).trans (bind_of_ok (require_pos h1 _) _),
    fun h0 => bind_of_error (require_neg (not_lt.mpr h0) _) _,
    fun h0 h1 => (bind_of_ok (require_pos h0 _) _).trans (bind_of_error (require_neg (not_lt.mpr h1) _) _)⟩

/-- Settles O43: the configuration passes, and the endpoint mode gives both values or refuses a literal. -/
theorem splInitResult : Obligations.SplInitResult := by
  intro s ha hg hm hc
  obtain ⟨hlit, hbad0, hbad1⟩ := @endpointValues_literal s.cfgV.toNat s.arg1.toNat s.arg2.toNat
  refine ⟨fun h => ?_, fun h => ?_, fun h => ?_, fun h h0 h1 => ?_, fun h h0 => ?_, fun h h0 h1 => ?_⟩
  · exact exec_splInit_made ha hg hm hc (by rw [h]; rfl)
  · exact exec_splInit_made ha hg hm hc (by rw [h]; rfl)
  · exact exec_splInit_made ha hg hm hc (by rw [h]; rfl)
  · exact exec_splInit_made ha hg hm hc (by rw [h]; exact hlit h0 h1)
  · exact exec_splInit_refused ha hg hm hc (by rw [h]; exact hbad0 h0)
  · exact exec_splInit_refused ha hg hm hc (by rw [h]; exact hbad1 h0 h1)

/-! SPL.SET. -/

section
variable {spl : Spline} {x : Nat} {y : Int}

theorem setBone_beyondX (hx : spl.n ≤ x) : setBone spl x y = .error (domainErr 0x02#8 (.val x)) :=
  bind_of_error (require_neg (not_lt.mpr hx) _) _

theorem setBone_beyondY (hx : x < spl.n) (hy : spl.v ≤ y) : setBone spl x y = .error (domainErr 0x03#8 (.val y)) :=
  (bind_of_ok (require_pos hx _) _).trans (bind_of_error (require_neg (not_lt.mpr hy) _) _)

/-- At a bone inside the grid, Set accepts the same y only. -/
theorem setBone_of_bone {z : Int} (hx : x < spl.n) (hy : y < spl.v) (hb : boneAt spl.bones x = some z) :
    setBone spl x y = if z = y then .ok spl else .error (integrityErr 0x26#8 (.val x)) := by
  refine (bind_of_ok (require_pos hx _) _).trans ((bind_of_ok (require_pos hy _) _).trans ?_)
  rw [hb]
  rfl

theorem setBone_equal (hx : x < spl.n) (hy : y < spl.v) (hb : boneAt spl.bones x = some y) :
    setBone spl x y = .ok spl :=
  (setBone_of_bone hx hy hb).trans (if_pos rfl)

theorem setBone_different {z : Int} (hx : x < spl.n) (hy : y < spl.v) (hb : boneAt spl.bones x = some z) (hz : z ≠ y) :
    setBone spl x y = .error (integrityErr 0x26#8 (.val x)) :=
  (setBone_of_bone hx hy hb).trans (if_neg hz)

end

/-- The installed bone, and the caches after it. -/
theorem installBone_eq (spl : Spline) (x : Nat) (y : Int) :
    installBone spl x y = { spl with
      bones := spl.bones.set x (some y)
      vc := if spl.vcEn then spl.vc.filter (fun e => e.key ≠ surroundKey spl x) else spl.vc
      loc := if spl.locPol = .nearby then (List.range spl.n).map (nearestBone (spl.bones.set x (some y))) else []
      dist := if spl.locPol = .distance then
          (List.range spl.n).map (fun z => (nearestBone (spl.bones.set x (some y)) z).map (absDist z)) else [] } := by
  have hdrop : vcDrop (surroundKey spl x) spl.vc = spl.vc.filter (fun e => e.key ≠ surroundKey spl x) :=
    List.filter_congr fun e _ => by rw [bne, decide_not, beq_eq_decide]
  rw [← hdrop]
  rfl

section
variable {s : State} (ha : s.cer.phase ≠ .active) (hv : s.spl.valid = true)
include ha hv

/-- Behind the checks that pass, SPL.SET is decided by Set. -/
theorem exec_splSet_set {r : Except Err Spline} (hr : setBone s.spl (zext s.arg0) (zext s.arg1) = r) :
    exec .splSet s = endCommand s (r >>= fun spl => .ok { s with spl := spl }) := by
  subst hr
  exact congrArg (endCommand s)
    ((bind_of_ok (requireSplValid_pass hv) _).trans (bind_of_ok (requireNotActive_pass ha) _))

theorem exec_splSet_refused {e : Err} (h : setBone s.spl (zext s.arg0) (zext s.arg1) = .error e) :
    exec .splSet s = .next (raiseError e s) := exec_splSet_set ha hv h

theorem exec_splSet_ok {spl : Spline} (h : setBone s.spl (zext s.arg0) (zext s.arg1) = .ok spl) :
    exec .splSet s = .next (complete { s with spl := spl }) := exec_splSet_set ha hv h

end

/-- Settles O44: by the outcomes of Set. -/
theorem splSetResult : Obligations.SplSetResult := by
  intro s ha hv x y
  refine ⟨fun hx => ?_, fun hx hy => ?_, fun hx hy hb => ?_, fun z hx hy hb hz => ?_, fun hx hy hb => ?_⟩
  · exact exec_splSet_refused ha hv (setBone_beyondX hx)
  · exact exec_splSet_refused ha hv (setBone_beyondY hx (by exact_mod_cast hy))
  · exact exec_splSet_ok ha hv (setBone_equal hx (by exact_mod_cast hy) hb)
  · exact exec_splSet_refused ha hv (setBone_different hx (by exact_mod_cast hy) hb hz)
  · exact (exec_splSet_ok ha hv (setBone_of_null hx (by exact_mod_cast hy) hb)).trans (by rw [installBone_eq]; rfl)

end Sys2Proof.Machine
end

section
/-! Every step keeps the cached predictions right for their keys (44_spline.md R263, R266, R267). -/

namespace Sys2Proof.Machine

/-! The parts of the run processor. -/

theorem installBone_cacheValuesOk {spl : Spline} (x : Nat) (y : Int) (h : CacheValuesOk spl) :
    CacheValuesOk (installBone spl x y) := by
  refine h.of_subset rfl rfl rfl rfl fun e he => ?_
  rw [installBone_eq] at he
  dsimp only at he
  split at he
  · exact (List.mem_filter.mp he).1
  · exact he

theorem setBone_cacheValuesOk {spl spl' : Spline} {x : Nat} {y : Int} (h : setBone spl x y = .ok spl')
    (hc : CacheValuesOk spl) : CacheValuesOk spl' := by
  obtain ⟨-, -, ⟨-, rfl⟩ | ⟨-, rfl⟩⟩ := setBone_ok spl spl' x y h
  · exact installBone_cacheValuesOk x y hc
  · exact hc

theorem resolveCell_cacheValuesOk (x : Nat) (v : Int) {s : State} (hc : CacheValuesOk s.spl) :
    CacheValuesOk (resolveCell x v s).state.spl := by
  obtain ⟨e, he⟩ | ⟨spl, hspl, ⟨e, he⟩ | ⟨cat, -, he⟩⟩ := resolveCell_cases x v s <;> rw [he]
  · exact hc
  · exact setBone_cacheValuesOk hspl hc
  · exact setBone_cacheValuesOk hspl hc

theorem hitCell_cacheValuesOk (x : Nat) (y : Int) {s : State} (hc : CacheValuesOk s.spl) :
    CacheValuesOk (hitCell x y s).state.spl := by
  unfold hitCell
  dsimp only
  generalize ho : (if otherFrontier (columnAt s.cat x) y = y then s
    else dropCell x (otherFrontier (columnAt s.cat x) y) s) = s'
  have hs' : s'.spl = s.spl := by
    rw [← ho]
    split <;> rfl
  have hr := resolveCell_cacheValuesOk x y (s := s') (hs' ▸ hc)
  cases he : resolveCell x y s' with
  | error q => exact (by rwa [he] at hr)
  | ok t => exact (by rwa [he] at hr : CacheValuesOk t.spl)

theorem absorbColumn_cacheValuesOk (x : Nat) {s : State} (hc : CacheValuesOk s.spl) :
    CacheValuesOk (absorbColumn x s).state.spl := by
  unfold absorbColumn
  dsimp only
  generalize (columnAt s.cat x).lo + 1 = v
  have hr := resolveCell_cacheValuesOk x v (s := dropCell x v s) hc
  cases he : resolveCell x v (dropCell x v s) with
  | error q => exact (by rwa [he] at hr)
  | ok t => exact (by rwa [he] at hr : CacheValuesOk t.spl)

/-- The replacement cell is scored on a sound Spline. -/
theorem afterElim_cacheValuesOk {crit low : Bool} {x : Nat} {s : State} {r : Part} (h : afterElim crit low x s = r)
    (hs : SplineOk s.spl) (hc : CacheValuesOk s.spl) : CacheValuesOk r.state.spl := by
  subst h
  cases crit with
  | true => exact absorbColumn_cacheValuesOk x hc
  | false => exact predict_cacheValuesOk x hs hc

theorem pressOf_cacheValuesOk {p : Option Nat} {s t : State} {v : Nat} (h : pressOf p s = .ok (v, t))
    (hc : CacheValuesOk s.spl) : CacheValuesOk t.spl := (pressOf_same h).1 ▸ hc

theorem finalRun_cacheValuesOk (p : Option Nat) {s : State} (hc : CacheValuesOk s.spl) :
    CacheValuesOk (finalRun p s).state.spl := by
  unfold finalRun
  cases s.cer.mode with
  | encode => obtain ⟨e, he⟩ | he := emitPress_cases s <;> simp only [he] <;> exact hc
  | decode =>
    dsimp only
    split
    · exact hc
    · rename_i v t hp
      have ht := pressOf_cacheValuesOk hp hc
      split <;> exact ht

theorem hitEnd_cacheValuesOk (e : RankEntry) {s : State} (hc : CacheValuesOk s.spl) :
    CacheValuesOk (hitEnd e s).state.spl := by
  unfold hitEnd
  have hr := hitCell_cacheValuesOk e.x e.y hc
  cases he : hitCell e.x e.y s with
  | error q => exact (by rwa [he] at hr)
  | ok t => exact (by rwa [he] at hr : CacheValuesOk t.spl)

theorem hitRun_cacheValuesOk (e : RankEntry) {s : State} (hc : CacheValuesOk s.spl) :
    CacheValuesOk (hitRun e s).state.spl := by
  obtain ⟨-, ⟨err, he⟩ | he⟩ | ⟨-, he⟩ := hitRun_cases e s <;> rw [he]
  · exact hc
  · exact hitEnd_cacheValuesOk e (s := tookPress s.cer.s s) hc
  · exact hitEnd_cacheValuesOk e hc

/-! Runs. -/

/-- A popped cell that is no hit is, in encode, not the sample of its column. -/
theorem decideHit_miss {p q : Option Nat} {e : RankEntry} {s t : State} (hd : decideHit p e s = .ok (false, q, t)) :
    t.cer.mode = .encode → plainAt t.cer.plain e.x ≠ some e.y := by
  obtain ⟨-, -, rfl, hne⟩ | ⟨hm, v, hp, -, -⟩ := decideHit_ok hd
  · simpa using fun _ => hne.symm
  · obtain ⟨-, -, hcer⟩ := pressOf_same hp
    intro hm'
    rw [hcer] at hm'
    exact absurd (hm.symm.trans hm') nofun

theorem decideHit_cacheValuesOk {p q : Option Nat} {e : RankEntry} {s t : State} {hit : Bool}
    (hd : decideHit p e s = .ok (hit, q, t)) (hc : CacheValuesOk s.spl) : CacheValuesOk t.spl := by
  obtain ⟨-, -, rfl, -⟩ | ⟨-, v, hp, -, -⟩ := decideHit_ok hd
  · exact hc
  · exact pressOf_cacheValuesOk hp hc

/-- The loop of a run predicts only where its invariant makes the Spline sound. -/
theorem LoopInv.runLoop_cacheValuesOk {left : Nat} {p : Option Nat} {s : State} (h : LoopInv p s)
    (hc : CacheValuesOk s.spl) : CacheValuesOk (Machine.runLoop left p s).state.spl := by
  induction left using Nat.strong_induction_on generalizing p s with
  | _ left ih =>
    have hdec {q : Option Nat} {e : RankEntry} {rest : List RankEntry} {hit : Bool} {t : State}
        (hd : Machine.decideHit p e (Machine.popped rest s) = .ok (hit, q, t)) : CacheValuesOk t.spl :=
      decideHit_cacheValuesOk hd hc
    have hstep := runLoop_step left p s
    generalize Machine.runLoop left p s = r at hstep ⊢
    cases hstep with
    | final hr => exact finalRun_cacheValuesOk p hc
    | unread err hr => exact hc
    | hit hr hd => exact hitRun_cacheValuesOk _ (hdec hd)
    | refused err hr hd => exact hdec hd
    | exceeded err hr hd hel =>
      have ht := hdec hd
      exact ht
    | failed hr hd hel ha =>
      have ht := hdec hd
      obtain ⟨c, hinv, -⟩ := ((h.popped hr).decideHit hd).eliminate (decideHit_unread hd h.unread) hel
        (decideHit_miss hd)
      exact afterElim_cacheValuesOk ha hinv.sound.spline ht
    | again hleft hr hd hel ha =>
      have ht := hdec hd
      obtain ⟨c, hinv, hcrit⟩ := ((h.popped hr).decideHit hd).eliminate (decideHit_unread hd h.unread) hel
        (decideHit_miss hd)
      exact ih _ (by omega) (hinv.afterElim hcrit ha)
        (afterElim_cacheValuesOk ha hinv.sound.spline ht)

theorem run_cacheValuesOk {s : State} (h : BlockInv s) (ha : s.cer.phase = .active) (hc : CacheValuesOk s.spl) :
    CacheValuesOk (run s).state.spl := (loopInv_of_active h ha).runLoop_cacheValuesOk hc

theorem runUntilFinal_cacheValuesOk {left : Nat} {s : State} (h : BlockInv s) (ha : s.cer.phase = .active)
    (hc : CacheValuesOk s.spl) : CacheValuesOk (runUntilFinal left s).state.spl := by
  induction left generalizing s with
  | zero =>
    obtain he | ⟨_, _, hleft, -⟩ := runUntilFinal_cases 0 s
    · exact he ▸ run_cacheValuesOk h ha hc
    · cases hleft
  | succ left ih =>
    have hrun := run_cacheValuesOk h ha hc
    obtain he | ⟨t, left', hleft, hr, he⟩ := runUntilFinal_cases (left + 1) s
    · exact he ▸ hrun
    · cases hleft
      obtain ⟨ht, hact⟩ : RunEnd.Ok (.done t false) := hr ▸ run_ok h ha
      rw [hr] at hrun
      exact he ▸ ih ht (hact rfl) hrun

/-! Commands. -/

/-- From a state with the block's invariant and right cached predictions, the cached predictions are right. -/
def KeepsRight (s u : State) : Prop := BlockInv s → CacheValuesOk s.spl → CacheValuesOk u.spl

theorem KeepsRight.of_same {s u : State} (h : u.spl = s.spl) : KeepsRight s u := fun _ hc => h ▸ hc

theorem KeepsRight.of_predict {s u : State} {x : Nat} (h : u.spl = (predict s.spl x).2) : KeepsRight s u :=
  fun hinv hc => h ▸ predict_cacheValuesOk x hinv.sound.spline hc

/-- The Spline of the state in which a command ends. -/
theorem EndsIn.splEq {P : State → Prop} {o : Host.Outcome State Fault Refusal} {t : State} (h : EndsIn P o)
    (ht : o = .next t) : ∃ u, P u ∧ t.spl = u.spl := by
  obtain ⟨u, hu, hspl, -, -⟩ := h.structures ht
  exact ⟨u, hu, hspl⟩

theorem endCommand_keepsRight {s : State} {r : Except Err State} (h : ∀ t, r = .ok t → KeepsRight s t) :
    EndsIn (KeepsRight s) (endCommand s r) := endCommand_endsIn (.of_same rfl) h

theorem invalidateCaches_cacheValuesOk {spl : Spline} (h : CacheValuesOk spl) : CacheValuesOk (invalidateCaches spl) := by
  cases hv : spl.valid with
  | false => rwa [invalidateCaches_of_invalid hv]
  | true =>
    rw [invalidateCaches_of_valid hv]
    refine h.of_subset rfl rfl rfl rfl fun e he => ?_
    have he : e ∈ if spl.vcEn then [] else spl.vc := he
    split at he
    · cases he
    · exact he

theorem execSplInit_keepsRight (s : State) : EndsIn (KeepsRight s) (execSplInit s) := by
  refine endCommand_keepsRight fun t h _ _ => ?_
  simp only [except_bind_ok, Prod.exists] at h
  obtain ⟨_, -, _, -, _, -, _, -, v0, v1, -, h⟩ := h
  cases h
  exact cacheValuesOk_of_empty (freshSpline_vc ..)

theorem execSplSet_keepsRight (s : State) : EndsIn (KeepsRight s) (execSplSet s) := by
  refine endCommand_keepsRight fun t h _ hc => ?_
  simp only [except_bind_ok] at h
  obtain ⟨_, -, _, -, spl, hset, h⟩ := h
  cases h
  exact setBone_cacheValuesOk hset hc

theorem execSplPred_keepsRight (s : State) : EndsIn (KeepsRight s) (execSplPred s) := by
  refine endCommand_keepsRight fun t h => ?_
  obtain ⟨-, -, h⟩ := (except_bind_ok _ _ _).mp h
  cases h
  exact .of_predict rfl

theorem execCerScore_keepsRight (s : State) : EndsIn (KeepsRight s) (execCerScore s) := by
  refine endCommand_keepsRight fun t h => ?_
  simp only [except_bind_ok] at h
  obtain ⟨-, -, -, -, h⟩ := h
  cases h
  exact .of_predict rfl

theorem predictPush_cacheValuesOk (xs : List Nat) {spl : Spline} (q : List Int) (hok : SplineOk spl)
    (hc : CacheValuesOk spl) : CacheValuesOk (predictPush xs spl q).1 := by
  induction xs generalizing spl q with
  | nil => exact hc
  | cons x xs ih =>
    have hc' := predict_cacheValuesOk x hok hc
    simp only [predictPush]
    cases seqPush q (predict spl x).1 with
    | error e => exact hc'
    | ok q' => exact ih q' ((predict_sameBones spl x).sound hok) hc'

theorem execSplPredall_keepsRight (s : State) : EndsIn (KeepsRight s) (execSplPredall s) := by
  have hk : KeepsRight s { s with spl := (predictPush (List.range s.spl.n) s.spl s.sout).1 } := fun hinv hc =>
    predictPush_cacheValuesOk _ _ hinv.sound.spline hc
  unfold execSplPredall
  split
  · exact .raise _ (.of_same rfl)
  · split
    · rename_i spl e he
      rw [he] at hk
      exact .raise _ hk
    · rename_i spl sout he
      rw [he] at hk
      exact .complete hk

theorem fillPlain_cacheValuesOk (v x : Nat) (plain : List (Option Int)) {spl : Spline} (hok : SplineOk spl)
    (hc : CacheValuesOk spl) : CacheValuesOk (fillPlain v x plain spl).2.1 := by
  induction plain generalizing x spl with
  | nil => exact hc
  | cons p plain ih =>
    cases p with
    | some y => exact ih (x + 1) hok hc
    | none => exact ih (x + 1) ((predict_sameBones spl x).sound hok) (predict_cacheValuesOk x hok hc)

theorem execCerFill_keepsRight (s : State) : EndsIn (KeepsRight s) (execCerFill s) := by
  refine endCommand_keepsRight fun t h hinv hc => ?_
  simp only [except_bind_ok] at h
  obtain ⟨-, -, h⟩ := h
  cases h
  exact fillPlain_cacheValuesOk _ _ _ hinv.sound.spline hc

/-! Blocks. -/

theorem pushCells_cacheValuesOk (cells : List (Nat × Int)) {s : State} (hok : SplineOk s.spl)
    (hc : CacheValuesOk s.spl) : CacheValuesOk (pushCells cells s).spl := by
  induction cells generalizing s with
  | nil => exact hc
  | cons c cells ih =>
    exact ih (s := pushFrontier s c.1 c.2) ((predict_sameBones s.spl c.1).sound hok) (predict_cacheValuesOk c.1 hok hc)

/-- A new block starts with an empty value cache. -/
theorem blockInit_cacheValuesOk {n v : Nat} {cfg : Word} {v0 v1 : Int} (mode : Mode) (psrc : PressSrc)
    (plain : List (Option Int)) (s : State) (hg : GeometryOk n v) (hm : MethodOk cfg) (h0 : 0 ≤ v0 ∧ v0 < v)
    (h1 : 0 ≤ v1 ∧ v1 < v) : CacheValuesOk (blockInit mode psrc n v cfg plain v0 v1 s).spl :=
  pushCells_cacheValuesOk _ (s := newBlock mode psrc n v cfg plain v0 v1 s) (freshSpline_ok s.cfgCache hg hm h0 h1)
    (cacheValuesOk_of_empty (freshSpline_vc ..))

/-- What the start of a block leaves: also right cached predictions. -/
structure BegunRight (s t : State) : Prop where
  begun : Begun s t
  right : CacheValuesOk t.spl

theorem startEncode_right {psrc : PressSrc} {s t : State} (hg : GeometryOk (zext s.cfgN) (zext s.cfgV))
    (hm : MethodOk s.cfgMethod) (h : startEncode psrc s = .ok t) : BegunRight s t := by
  refine ⟨startEncode_begun hg hm h, ?_⟩
  simp only [startEncode, except_bind_ok] at h
  obtain ⟨xs, hxs, h⟩ := h
  cases h
  obtain ⟨hlen, hrange⟩ := cerSamples_ok hxs
  have hn : 2 ≤ zext s.cfgN := hg.1
  obtain ⟨-, hends⟩ := startPlain_encode hn hlen hrange
  exact blockInit_cacheValuesOk _ _ _ _ hg hm (hends 0 (by omega)) (hends (zext s.cfgN - 1) (by omega))

theorem beginEncode_right {psrc : PressSrc} {s t : State} (h : beginEncode psrc s = .ok t) : BegunRight s t := by
  obtain ⟨_, hc, h⟩ := (except_bind_ok _ _ _).mp h
  obtain ⟨hg, hm⟩ := cerCheckConfig_ok hc
  exact startEncode_right hg hm h

theorem beginEncblk_right {s t : State} {c : Codec} (h : beginEncblk s = .ok (c, t)) : BegunRight s t := by
  simp only [beginEncblk, except_bind_ok] at h
  obtain ⟨_, hc, c', -, t', ht, h⟩ := h
  cases h
  obtain ⟨hg, hm⟩ := cerCheckConfig_ok hc
  exact startEncode_right hg hm ht

theorem blockInit_decode_right {psrc : PressSrc} {n v v0 v1 : Nat} {cfg : Word} {s : State} (hg : GeometryOk n v)
    (hm : MethodOk cfg) (h0 : v0 < v) (h1 : v1 < v) :
    CacheValuesOk (blockInit .decode psrc n v cfg (decodePlain n v0 v1) v0 v1 s).spl :=
  blockInit_cacheValuesOk _ _ _ _ hg hm (by omega) (by omega)

theorem beginDecode_right {psrc : PressSrc} {s t : State} (h : beginDecode psrc s = .ok t) : BegunRight s t := by
  refine ⟨beginDecode_begun h, ?_⟩
  obtain ⟨_, hc, h⟩ := (except_bind_ok _ _ _).mp h
  obtain ⟨hg, hm⟩ := cerCheckConfig_ok hc
  have hends : ∃ v0 v1 : Nat, v0 < zext s.cfgV ∧ v1 < zext s.cfgV
      ∧ t = blockInit .decode psrc (zext s.cfgN) (zext s.cfgV) s.cfgMethod (decodePlain (zext s.cfgN) v0 v1) v0 v1 s := by
    split at h <;> simp only [except_bind_ok, require_ok] at h
    · obtain ⟨_, -, _, h0, _, h1, h⟩ := h
      cases h
      exact ⟨_, _, h0, h1, rfl⟩
    · obtain ⟨_, h0, _, h1, h⟩ := h
      cases h
      exact ⟨_, _, h0, h1, rfl⟩
  obtain ⟨v0, v1, h0, h1, rfl⟩ := hends
  exact blockInit_decode_right hg hm h0 h1

theorem beginDecblk_right {s t : State} (h : beginDecblk s = .ok t) : BegunRight s t := by
  refine ⟨beginDecblk_begun h, ?_⟩
  simp only [beginDecblk, except_bind_ok] at h
  obtain ⟨hd, hr, _, hc, _, -, h⟩ := h
  cases h
  obtain ⟨hg, hm⟩ := cerCheckConfig_ok hc
  obtain ⟨h0, h1, -⟩ := readHeader_ok hr
  exact blockInit_decode_right hg hm h0 h1

theorem execCerInit_keepsRight (s : State) : EndsIn (KeepsRight s) (execCerInit s) := by
  refine endCommand_keepsRight fun t h _ _ => ?_
  obtain ⟨-, -, h⟩ := (except_bind_ok _ _ _).mp h
  split at h
  · exact (beginDecode_right h).right
  · exact (beginEncode_right h).right

theorem BegunRight.runBlock {s t : State} (h : BegunRight s t) : CacheValuesOk (runBlock t).state.spl :=
  runUntilFinal_cacheValuesOk h.begun.inv h.begun.active h.right

theorem whenActive_keepsRight {runs : State → RunEnd} (s : State)
    (h : BlockInv s → s.cer.phase = .active → CacheValuesOk s.spl → CacheValuesOk (runs s).state.spl) :
    KeepsRight s (whenActive runs s).state := by
  intro hinv hc
  unfold whenActive
  split
  · exact hc
  · rename_i u ha
    exact h hinv ((require_ok _ _ _).mp ha) hc

theorem execCerRun_keepsRight (s : State) : EndsIn (KeepsRight s) (execCerRun s) := by
  have h : KeepsRight s (whenActive run s).state := whenActive_keepsRight s run_cacheValuesOk
  unfold execCerRun
  generalize whenActive run s = r at h
  cases r with
  | raised e t => exact .raise e (u := failedBlock s t) h
  | done t final => exact .complete h

theorem execCerBlock_keepsRight (s : State) : EndsIn (KeepsRight s) (execCerBlock s) := by
  have h : KeepsRight s (whenActive runBlock s).state := whenActive_keepsRight s runUntilFinal_cacheValuesOk
  unfold execCerBlock
  generalize whenActive runBlock s = r at h
  cases r with
  | raised e t => exact .raise e (u := failedBlock s t) h
  | done t final => exact .complete h

theorem execCerEncblk_keepsRight (s : State) : EndsIn (KeepsRight s) (execCerEncblk s) := by
  unfold execCerEncblk
  split
  · exact .raise _ (.of_same rfl)
  · rename_i c t hb
    have h : KeepsRight s (runBlock t).state := fun _ _ => (beginEncblk_right hb).runBlock
    generalize runBlock t = r at h
    cases r with
    | raised e u => exact .raise e (u := failedBlock s u) h
    | done u final =>
      unfold endEncblk
      dsimp only
      split
      · exact .raise _ (u := failedBlock s u) h
      · exact .complete h

theorem execCerDecblk_keepsRight (s : State) : EndsIn (KeepsRight s) (execCerDecblk s) := by
  unfold execCerDecblk
  split
  · exact .raise _ (.of_same rfl)
  · rename_i t hb
    have h : KeepsRight s (runBlock t).state := fun _ _ => (beginDecblk_right hb).runBlock
    generalize runBlock t = r at h
    cases r with
    | raised e u => exact .raise e (u := failedBlock s u) h
    | done u final =>
      unfold endDecblk
      dsimp only
      split
      · exact .raise _ (u := failedBlock s u) h
      · exact .complete h

/-- Every command but CTL.SRESET keeps the cached predictions right. -/
theorem exec_keepsRight {i : Instr} (hi : i ≠ .ctlSreset) (s : State) : EndsIn (KeepsRight s) (exec i s) := by
  have hcat {u : State} (h : CatWork s u) : KeepsRight s u := .of_same h.kept.1
  cases hu : usesStructures i with
  | false => exact (exec_streamWork hu s).mono fun _ h => .of_same h.structures.1
  | true =>
    cases i with
    | ctlSreset => exact absurd rfl hi
    | ctlCinv => exact .complete fun _ hc => invalidateCaches_cacheValuesOk hc
    | catInit => exact (execCatInit_catWork s).mono fun _ => hcat
    | catElim => exact (execCatElim_catWork s).mono fun _ => hcat
    | catElimcol => exact (execCatElimcol_catWork s).mono fun _ => hcat
    | catImpmin => exact (catImpose_catWork s imposeMinColumn_ok).mono fun _ => hcat
    | catImpmax => exact (catImpose_catWork s imposeMaxColumn_ok).mono fun _ => hcat
    | splInit => exact execSplInit_keepsRight s
    | splSet => exact execSplSet_keepsRight s
    | splPred => exact execSplPred_keepsRight s
    | splPredall => exact execSplPredall_keepsRight s
    | cerInit => exact execCerInit_keepsRight s
    | cerRun => exact execCerRun_keepsRight s
    | cerBlock => exact execCerBlock_keepsRight s
    | cerFill => exact execCerFill_keepsRight s
    | cerEncblk => exact execCerEncblk_keepsRight s
    | cerDecblk => exact execCerDecblk_keepsRight s
    | cerScore => exact execCerScore_keepsRight s
    | _ => cases hu

/-- Settles O23: host accesses leave the Spline or reset it, and every command keeps the cached predictions right. -/
theorem cachedPredictionsStayRight : Obligations.CachedPredictionsStayRight := by
  intro s t hinv hc h
  refine step_keeps (P := fun t => CacheValuesOk t.spl) hc h (fun a rest => ?_)
    (fun _ => cacheValuesOk_of_empty rfl) (fun e _ => hc) (fun i _ hi he => ?_)
  · by_cases ha : a = .reset
    · subst ha
      exact cacheValuesOk_of_empty rfl
    · obtain ⟨hspl, -⟩ := hostAccess_structures a { s with host := rest } ha
      rw [hspl]
      exact hc
  · obtain ⟨u, hu, hspl⟩ := (exec_keepsRight hi s).splEq he
    exact hspl ▸ hu hinv hc

end Sys2Proof.Machine
end

section
/-! CER.INIT of an encode: the checks, the structures of the new block, and its rankings (45_cer.md R283, R290, R298). -/

namespace Sys2Proof.Machine

/-! The checks. -/

/-- The mode words of an encode: bit 1 tells the press source (45_cer.md R298). -/
theorem exec_cerInit_encode {s : State} (h : s.arg0.toNat = 0 ∨ s.arg0.toNat = 2) :
    exec .cerInit s = endCommand s (beginEncode (if s.arg0.toNat = 2 then .bin else .sin) s) := by
  have hpass : require (zext s.arg0 < 4) (illegalErr 0x56#8 (.val (zext s.arg0))) = .ok () :=
    require_pos (by unfold zext; omega) _
  have hbits : s.arg0.getLsbD 0 = false ∧ psrcOfBit (s.arg0.getLsbD 1) = if s.arg0.toNat = 2 then .bin else .sin := by
    rcases h with h | h <;> simp [BitVec.getLsbD, h, psrcOfBit, Nat.testBit]
  show endCommand s _ = _
  rw [bind_of_ok hpass, hbits.1, hbits.2]
  rfl

theorem beginEncode_eq {s : State} (psrc : PressSrc) (h : EncodeReady s) :
    beginEncode psrc s = .ok (encodeBlock psrc s) := by
  have hstart := startEncode_eq psrc h
  obtain ⟨hg, hm, hl, -⟩ := h
  exact (bind_of_ok (cerCheckConfig_pass hg hm hl) _).trans hstart

theorem beginEncode_short {s : State} (psrc : PressSrc) (hg : GeometryOk s.cfgN.toNat s.cfgV.toNat)
    (hm : MethodOk s.cfgMethod) (hl : locpolField s.cfgCache ≤ 2) (hlen : s.sin.length < s.cfgN.toNat) :
    beginEncode psrc s = .error (domainErr 0x04#8 (.val s.cfgN.toNat)) := by
  have hsamples : cerSamples (zext s.cfgN) (zext s.cfgV) s = .error (domainErr 0x04#8 (.val s.cfgN.toNat)) :=
    bind_of_error (require_neg (not_le.mpr hlen) _) _
  exact (bind_of_ok (cerCheckConfig_pass hg hm hl) _).trans (bind_of_error hsamples _)

/-! The rankings of pushed cells. -/

/-- Every cell pushed on a sound Spline is scored by the prediction of the current bones (45_cer.md R283). -/
theorem pushCells_scores {cells : List (Nat × Int)} {s : State} (hvalid : s.spl.valid = true) (hok : SplineOk s.spl)
    (hc : CacheValuesOk s.spl) (hcells : ∀ c ∈ cells, c.1 < s.spl.n)
    (hrank : ∀ e ∈ s.cer.rank, e.score = scoreOf s.cer.v (purePredict s.spl e.x) e.y) :
    ∀ e ∈ (pushCells cells s).cer.rank, e.score = scoreOf s.cer.v (purePredict s.spl e.x) e.y := by
  induction cells generalizing s with
  | nil => exact hrank
  | cons c cells ih =>
    obtain ⟨hx, hcells⟩ := List.forall_mem_cons.mp hcells
    obtain ⟨vc, hvc, hok', hc'⟩ := predict_keeps c.1 hok hc
    have hpush : pushFrontier s c.1 c.2 = { s with
        spl := { s.spl with vc := vc }
        cer := { s.cer with rank := rankInsert ⟨scoreOf s.cer.v (purePredict s.spl c.1) c.2, c.1, c.2⟩ s.cer.rank } } := by
      rw [pushFrontier, predict_fst hvalid hok hc hx, hvc]
    show ∀ e ∈ (pushCells cells (pushFrontier s c.1 c.2)).cer.rank, _
    rw [hpush]
    refine ih (s := { s with spl := { s.spl with vc := vc }, cer := _ }) hvalid hok' hc' hcells fun e he => ?_
    rcases (mem_rankInsert _ e _).mp he with rfl | he
    · rfl
    · exact hrank e he

/-- Rankings of a set of cells that a list names, each once, have that list's length. -/
theorem RanksCells.length_eq {rank : List RankEntry} {P : Nat → Int → Prop} (h : RanksCells rank P)
    {cells : List (Nat × Int)} (hnodup : cells.Nodup) (hmem : ∀ x y, P x y ↔ (x, y) ∈ cells) :
    rank.length = cells.length := by
  obtain ⟨hsorted, hcells, hone⟩ := h
  have hrank : rank.Nodup := hsorted.imp fun {a b} hab hne => by
    rw [hne, rankLt_irrefl] at hab
    cases hab
  have hmap : (rank.map (fun e => (e.x, e.y))).Nodup :=
    hrank.map_on fun e he f hf hef => hone e he f hf (Prod.ext_iff.mp hef).1 (Prod.ext_iff.mp hef).2
  have hperm : (rank.map (fun e => (e.x, e.y))).Perm cells := by
    refine (List.perm_ext_iff_of_nodup hmap hnodup).mpr fun c => ?_
    rw [← hmem c.1 c.2, ← hcells]
    simp only [List.mem_map, Prod.ext_iff, Ranked]
  simpa using hperm.length_eq

/-! The structures of the new block. -/

/-- The frontier of a new catalogue: the cells 0 and V - 1 of every column between the endpoints. -/
theorem frontier_blockCatalogue {n v : Nat} (hn : 2 ≤ n) (v0 v1 : Int) (x : Nat) (y : Int) :
    Frontier (blockCatalogue n v v0 v1) x y ↔ (0 < x ∧ x < n - 1) ∧ (y = 0 ∨ y = (v : Int) - 1) := by
  have hcat : (blockCatalogue n v v0 v1).n = n := rfl
  unfold Frontier Unresolved
  rw [hcat]
  by_cases hx : x < n
  · rw [columnAt_blockCatalogue hn v0 v1 hx]
    by_cases hlast : x = n - 1
    · simp [hlast, resolvedColumn]
    · by_cases hfirst : x = 0
      · simp [hfirst, resolvedColumn, show ¬(0 : Nat) = n - 1 by omega]
      · simp only [hlast, hfirst, if_false, freshColumn, hx, true_and, show 0 < x ∧ x < n - 1 by omega]
        simp
  · exact iff_of_false (fun h => hx h.1.1) (fun h => hx (by omega))

theorem blockCatalogue_column {n v : Nat} (hn : 2 ≤ n) (v0 v1 : Int) {x : Nat} (hx : x < n) :
    (blockCatalogue n v v0 v1).cols[x]?
      = some (if x = n - 1 then resolvedColumn v1 else if x = 0 then resolvedColumn v0 else freshColumn v) := by
  have hx' : x < (blockCatalogue n v v0 v1).cols.length := by
    simpa [blockCatalogue, setColumn, freshCatalogue] using hx
  rw [List.getElem?_eq_getElem hx', ← columnAt_eq_getElem hx', columnAt_blockCatalogue hn v0 v1 hx]

/-- Pushing cells changes the value cache and the rankings only. -/
theorem pushCells_eq (cells : List (Nat × Int)) (s : State) : ∃ (vc : List VcEntry) (rank : List RankEntry),
    pushCells cells s = { s with spl := { s.spl with vc := vc }, cer := { s.cer with rank := rank } } := by
  induction cells generalizing s with
  | nil => exact ⟨s.spl.vc, s.cer.rank, rfl⟩
  | cons c cells ih =>
    obtain ⟨vc, rank, htail⟩ := ih (pushFrontier s c.1 c.2)
    obtain ⟨vc', hvc⟩ := predict_frame s.spl c.1
    refine ⟨vc, rank, htail.trans ?_⟩
    rw [pushFrontier, hvc]

/-- The block that an encode starts, field by field: the predictions decide the value cache and the rankings only. -/
theorem encodeBlock_eq (psrc : PressSrc) (s : State) : ∃ (vc : List VcEntry) (rank : List RankEntry),
    encodeBlock psrc s = { s with
      sin := s.sin.drop (zext s.cfgN)
      spl := { freshSpline (zext s.cfgN) (zext s.cfgV) s.cfgMethod s.cfgCache ((plaintext s).getD 0 0)
        ((plaintext s).getD (zext s.cfgN - 1) 0) with vc := vc }
      cat := blockCatalogue (zext s.cfgN) (zext s.cfgV) ((plaintext s).getD 0 0) ((plaintext s).getD (zext s.cfgN - 1) 0)
      cer := { blockCer .encode psrc (zext s.cfgN) (zext s.cfgV) s.cfgMethod ((plaintext s).map some) s with
        rank := rank } } :=
  pushCells_eq _ _

/-- The rankings of a new block: the frontier cells, each once, in key order and scored (45_cer.md R283, R284, R290). -/
theorem encodeBlock_rank {s : State} (psrc : PressSrc) (h : EncodeReady s) :
    RanksCells (encodeBlock psrc s).cer.rank
        (fun x y => (0 < x ∧ x < zext s.cfgN - 1) ∧ (y = 0 ∨ y = (zext s.cfgV : Int) - 1))
      ∧ ∀ e ∈ (encodeBlock psrc s).cer.rank,
        e.score = scoreOf (zext s.cfgV) (purePredict (encodeBlock psrc s).spl e.x) e.y := by
  have hstart := startEncode_eq psrc h
  obtain ⟨hg, hm, -, hlen, hrange⟩ := h
  have hn : 2 ≤ zext s.cfgN := hg.1
  obtain ⟨-, hends⟩ := startPlain_encode hn (List.length_take_of_le hlen : (plaintext s).length = _) hrange
  have hok : SplineOk (newBlock .encode psrc (zext s.cfgN) (zext s.cfgV) s.cfgMethod ((plaintext s).map some)
      ((plaintext s).getD 0 0) ((plaintext s).getD (zext s.cfgN - 1) 0) { s with sin := s.sin.drop (zext s.cfgN) }).spl :=
    freshSpline_ok s.cfgCache hg hm (hends 0 (by omega)) (hends _ (by omega))
  have hfront (x : Nat) (y : Int) := frontier_blockCatalogue (v := zext s.cfgV) hn ((plaintext s).getD 0 0)
    ((plaintext s).getD (zext s.cfgN - 1) 0) x y
  have hmem (x : Nat) (y : Int) := mem_genExtreme
    (cat := blockCatalogue (zext s.cfgN) (zext s.cfgV) ((plaintext s).getD 0 0)
      ((plaintext s).getD (zext s.cfgN - 1) 0)) (by simp [blockCatalogue, setColumn, freshCatalogue]) x y
  refine ⟨(pushCells_ranks ranksCells_nil (genExtreme_nodup _) (fun _ _ => id)).congr fun x y => ?_, fun e he => ?_⟩
  · rw [false_or]
    exact (hmem x y).trans (hfront x y)
  · have hscore := pushCells_scores rfl hok (cacheValuesOk_of_empty (freshSpline_vc ..)) (fun c hc => ?_) nofun e he
    · rw [hscore]
      refine congrArg (fun p => scoreOf _ p e.y) ?_
      obtain ⟨vc, rank, heq⟩ := encodeBlock_eq psrc s
      rw [heq]
      exact purePredict_congr rfl rfl rfl rfl e.x
    · have hx := ((hmem c.1 c.2).trans (hfront c.1 c.2)).mp hc
      show c.1 < zext s.cfgN
      omega

/-- The endpoint samples, as the statement names them. -/
theorem plaintext_getD {s : State} (hlen : zext s.cfgN ≤ s.sin.length) {x : Nat} (hx : x < zext s.cfgN) :
    (plaintext s).getD x 0 = s.sin.getD x 0 ∧ some ((plaintext s).getD x 0) = s.sin[x]? := by
  have hget : s.sin[x]? = some s.sin[x] := List.getElem?_eq_getElem (hx.trans_le hlen)
  simp [plaintext, List.getD_eq_getElem?_getD, hx, hget]

/-- Settles O51: the checks pass and the block is the one that an encode starts; its rankings are those of the frontier of
its catalogue. -/
theorem cerInitEncodes : Obligations.CerInitEncodes := by
  intro s hmode
  rw [exec_cerInit_encode hmode]
  generalize (if s.arg0.toNat = 2 then PressSrc.bin else PressSrc.sin) = psrc
  refine ⟨fun h => ?_, fun hg hm hl hlen => endCommand_of_error (beginEncode_short psrc hg hm hl hlen)⟩
  have hstart := startEncode_eq psrc h
  obtain ⟨hranks, hscores⟩ := encodeBlock_rank psrc h
  have hbegin := beginEncode_eq psrc h
  obtain ⟨hg, hm, -, hlen, -⟩ := h
  obtain ⟨⟨-, hinv, -⟩, hright⟩ := startEncode_right hg hm hstart
  obtain ⟨-, hspl, hform, -⟩ := hinv.sound
  obtain ⟨vc, rank, heq⟩ := encodeBlock_eq psrc s
  obtain ⟨hn, -, hv, -⟩ := hg
  obtain ⟨hfst, hfst'⟩ := plaintext_getD hlen (show 0 < zext s.cfgN by omega)
  obtain ⟨hlst, hlst'⟩ := plaintext_getD hlen (show zext s.cfgN - 1 < zext s.cfgN by omega)
  have hcount := hranks.length_eq (cells := List.range' 1 (zext s.cfgN - 2) ×ˢ [0, (zext s.cfgV : Int) - 1])
    (List.Nodup.product List.nodup_range' (by simp; omega))
    (fun x y => by simp only [List.mem_product, List.mem_range'_1, List.mem_cons, List.not_mem_nil, or_false]; omega)
  obtain ⟨hsorted, hcells, -⟩ := hranks
  rw [heq] at hspl hform hright hcount hsorted hcells hscores
  refine ⟨_, _, _, (endCommand_of_ok hbegin).trans (congrArg (fun t => Host.Outcome.next (complete t)) heq),
    rfl, rfl, rfl, rfl, rfl, rfl, ?bones, hspl, hform, hright, rfl, rfl, rfl, ?width, fun x hx => ?column, ?count, hsorted,
    fun x h0 h1 => ?ends, fun e he => ?entry⟩
  case bones =>
    exact congrArg₂ (fun p q => ((List.replicate (zext s.cfgN) none).set 0 p).set (zext s.cfgN - 1) q) hfst' hlst'
  case width =>
    simp [blockCatalogue, setColumn, freshCatalogue]
    rfl
  case column =>
    refine (blockCatalogue_column hn _ _ hx).trans (congrArg some ?_)
    change _ = if x = 0 ∨ x = zext s.cfgN - 1 then resolvedColumn (s.sin.getD x 0) else freshColumn (zext s.cfgV)
    by_cases hlast : x = zext s.cfgN - 1
    · rw [if_pos hlast, if_pos (.inr hlast), hlst, hlast]
    · by_cases hfirst : x = 0
      · rw [if_neg hlast, if_pos hfirst, if_pos (.inl hfirst), hfst, hfirst]
      · rw [if_neg hlast, if_neg hfirst, if_neg (by omega)]
  case count =>
    rw [List.length_product, List.length_range'] at hcount
    exact hcount.trans (Nat.mul_comm _ _)
  case ends => exact ⟨(hcells x 0).mpr ⟨⟨h0, h1⟩, .inl rfl⟩, (hcells x _).mpr ⟨⟨h0, h1⟩, .inr rfl⟩⟩
  case entry =>
    obtain ⟨⟨h0, h1⟩, hy⟩ := (hcells e.x e.y).mp ⟨e, he, rfl, rfl⟩
    exact ⟨h0, h1, hy, hscores e he⟩

end Sys2Proof.Machine
end

section
/-! The symmetry law: a decoder that is given the encoder's press data does what the encoder does (45_cer.md R285, R292). -/

namespace Sys2Proof.Machine

/-! Splines that agree on everything but their caches. -/

/-- An initialised sound Spline whose cached predictions are right. -/
structure Usable (spl : Spline) : Prop where
  valid : spl.valid = true
  sound : SplineOk spl
  right : CacheValuesOk spl

/-- Two usable Splines with the same configuration and bones. -/
structure Twin (a b : Spline) : Prop where
  left : Usable a
  right : Usable b
  n : b.n = a.n
  v : b.v = a.v
  cfg : b.cfg = a.cfg
  bones : b.bones = a.bones

theorem Usable.predict {spl : Spline} {x : Nat} (h : Usable spl) (hx : x < spl.n) :
    (predict spl x).1 = purePredict spl x ∧ ∃ vc, (predict spl x).2 = { spl with vc := vc }
      ∧ Usable { spl with vc := vc } := by
  obtain ⟨vc, hvc, hsound, hright⟩ := predict_keeps x h.sound h.right
  exact ⟨predict_fst h.valid h.sound h.right hx, vc, hvc, h.valid, hsound, hright⟩

/-- Twins predict alike and stay twins (44_spline.md R268). -/
theorem Twin.predict {a b : Spline} {x : Nat} (h : Twin a b) (hx : x < a.n) :
    (predict b x).1 = (predict a x).1 ∧ Twin (predict a x).2 (predict b x).2 := by
  obtain ⟨hl, hr, hn, hv, hcfg, hbones⟩ := h
  obtain ⟨hfst, vc, hvc, hl'⟩ := hl.predict hx
  obtain ⟨hfst', vc', hvc', hr'⟩ := hr.predict (hn ▸ hx)
  rw [hfst, hfst', hvc, hvc']
  exact ⟨purePredict_congr hn hv hcfg hbones x, hl', hr', hn, hv, hcfg, hbones⟩

theorem Usable.setBone {spl spl' : Spline} {x : Nat} {y : Int} (h : Usable spl) (h0 : 0 ≤ y)
    (hs : setBone spl x y = .ok spl') : Usable spl' := by
  obtain ⟨hsound, -⟩ := setBone_keeps h0 hs
  refine ⟨?_, hsound h.sound, setBone_cacheValuesOk hs h.right⟩
  obtain ⟨-, -, ⟨-, rfl⟩ | ⟨-, rfl⟩⟩ := setBone_ok spl spl' x y hs
  · exact h.valid
  · exact h.valid

/-- A bone that Set accepts is then a bone of the Spline. -/
theorem setBone_bones {spl spl' : Spline} {x : Nat} {y : Int} (hs : setBone spl x y = .ok spl') :
    spl'.bones = spl.bones.set x (some y) ∧ spl'.n = spl.n ∧ spl'.v = spl.v ∧ spl'.cfg = spl.cfg := by
  obtain ⟨-, -, ⟨-, rfl⟩ | ⟨hb, rfl⟩⟩ := setBone_ok spl spl' x y hs
  · exact ⟨rfl, rfl, rfl, rfl⟩
  · exact ⟨(set_plainAt hb).symm, rfl, rfl, rfl⟩

/-- Set decides alike on twins, and they stay twins. -/
theorem Twin.setBone {a b a' : Spline} {x : Nat} {y : Int} (h : Twin a b) (h0 : 0 ≤ y) (hs : setBone a x y = .ok a') :
    ∃ b', setBone b x y = .ok b' ∧ Twin a' b' := by
  obtain ⟨hl, hr, hn, hv, hcfg, hbones⟩ := h
  have hdecided : ∃ b', Machine.setBone b x y = .ok b' := by
    obtain ⟨hx, hy, hb⟩ := setBone_ok a a' x y hs
    rw [← hn] at hx
    rw [← hv] at hy
    rw [← hbones] at hb
    obtain ⟨hb, -⟩ | ⟨hb, -⟩ := hb
    · exact ⟨_, setBone_of_null hx hy hb⟩
    · exact ⟨_, setBone_equal hx hy hb⟩
  obtain ⟨b', hs'⟩ := hdecided
  obtain ⟨hab, han, hav, hac⟩ := setBone_bones hs
  obtain ⟨hbb, hbn, hbv, hbc⟩ := setBone_bones hs'
  exact ⟨b', hs', hl.setBone h0 hs, hr.setBone h0 hs', by rw [hbn, han, hn], by rw [hbv, hav, hv], by rw [hbc, hac, hcfg],
    by rw [hbb, hab, hbones]⟩

/-! The decoder that stands where an encoder stands. -/

/-- The decoder o once it did what took an encoder to e: its Spline is spl, its samples are the bones, and p is the press
value of the present run, if it was read. -/
def decoding (o e : State) (spl : Spline) (p : Option Nat) : State :=
  { o with
    spl := spl
    cat := e.cat
    cer := { e.cer with
      mode := .decode
      psrc := o.cer.psrc
      cfgCodec := o.cer.cfgCodec
      cfgIotaMax := o.cer.cfgIotaMax
      plain := spl.bones
      press := e.cer.press ++ p.toList } }

/-- The press value that an encoder emits is the one that its decoder has read. -/
theorem decoding_tookPress (o e : State) (spl : Spline) (k : Nat) :
    decoding o (tookPress k e) spl none = decoding o e spl (some k) := by
  simp [decoding, tookPress]

/-- A press value of the decoder o is k, and it is o' once it read it (45_cer.md R296). -/
inductive Supplies (o : State) (k : Nat) : State → Prop where
  | sin {q : List Int} : o.cer.psrc = .sin → o.sin = (k : Int) :: q → Supplies o k { o with sin := q }
  | bin {c : Codec} {r : Nat} {b : Bits} : o.cer.psrc = .bin → codecOfId (rcidField o.cer.cfgCodec) = some c →
      requireBound c (zext o.cer.cfgIotaMax) = .ok () → decCode c (zext o.cer.cfgIotaMax) o.bin = .ok (r, b) →
      (adaptOut1 c r).toNat = k → Supplies o k { o with bin := b }

theorem Supplies.nextPress {o o' : State} {k : Nat} (h : Supplies o k o') (e : State) (spl : Spline) :
    nextPress (decoding o e spl none) = .ok (k, decoding o' e spl (some k)) := by
  have hpress : e.cer.press ++ [] = e.cer.press := List.append_nil _
  cases h with
  | sin hsrc hq =>
    have hnn : require ((0 : Int) ≤ k) (parseErr 0x17#8 (.val k)) = .ok () := require_pos (by omega) _
    simp only [Machine.nextPress, nextPressSin, decoding, hsrc, hq, seqPop, hnn, bind, Except.bind, pure, Except.pure,
      tookPress, Option.toList, hpress, Int.toNat_natCast]
  | bin hsrc hc hbound hdec hk =>
    simp only [Machine.nextPress, nextPressBin, decoding, hsrc, hc, hbound, hdec, hk, bind, Except.bind, pure, Except.pure,
      tookPress, Option.toList, hpress]

/-- The press value k of the present run: p tells that it was read, or o supplies it. -/
inductive Awaits (o : State) (k : Nat) : Option Nat → State → Prop where
  | read : Awaits o k (some k) o
  | next {o' : State} : Supplies o k o' → Awaits o k none o'

theorem Awaits.pressOf {o o' : State} {k : Nat} {p : Option Nat} (h : Awaits o k p o') (e : State) (spl : Spline) :
    pressOf p (decoding o e spl p) = .ok (k, decoding o' e spl (some k)) := by
  cases h with
  | read => rfl
  | next h => exact h.nextPress e spl

theorem Awaits.decideHit {o o' : State} {k : Nat} {p : Option Nat} (h : Awaits o k p o') (c : RankEntry) (e : State)
    (spl : Spline) :
    decideHit p c (decoding o e spl p) = .ok (k == e.cer.s, some k, decoding o' e spl (some k)) := by
  have hmode : (decoding o e spl p).cer.mode = .decode := rfl
  simp only [Machine.decideHit, hmode, h.pressOf]
  rfl

/-! The parts of the run processor, on both sides. -/

/-- A part of the run processor that takes an encoder from e to e' takes its decoders along. -/
def Mirrors (f : State → Part) (e e' : State) : Prop :=
  ∀ (o : State) (p : Option Nat) (spl : Spline), Twin e.spl spl →
    ∃ spl', f (decoding o e spl p) = .ok (decoding o e' spl' p) ∧ Twin e'.spl spl'

theorem resolveCell_mirrors {x : Nat} {v : Int} {e e' : State} (h0 : 0 ≤ v) (h : resolveCell x v e = .ok e') :
    Mirrors (resolveCell x v) e e' ∧ e'.cer.s = e.cer.s ∧ e'.cer.press = e.cer.press := by
  obtain ⟨_, he⟩ | ⟨a', ha, ⟨_, he⟩ | ⟨cat, hcat, he⟩⟩ := resolveCell_cases x v e <;> cases he.symm.trans h
  refine ⟨fun o p spl ht => ?_, rfl, rfl⟩
  obtain ⟨spl', hspl', ht'⟩ := ht.setBone h0 ha
  obtain ⟨hbones, -⟩ := setBone_bones hspl'
  refine ⟨spl', ?_, ht'⟩
  have hcat' : eliminateColumn (decoding o e spl p).cat x v = .ok cat := hcat
  have hset : setBone (decoding o e spl p).spl x v = .ok spl' := hspl'
  simp only [resolveCell, hset, hcat']
  simp only [decoding, hbones]

/-- A hit on a column that has another frontier cell. -/
theorem hitCell_mirrors {x : Nat} {y : Int} {e e' : State} (h0 : 0 ≤ y) (hne : otherFrontier (columnAt e.cat x) y ≠ y)
    (h : hitCell x y e = .ok e') : Mirrors (hitCell x y) e e' ∧ e'.cer.s = e.cer.s ∧ e'.cer.press = e.cer.press := by
  cases hr : resolveCell x y (dropCell x (otherFrontier (columnAt e.cat x) y) e) with
  | error q => simp [hitCell, hne, hr] at h
  | ok t =>
    obtain rfl : { t with cer := { t.cer with hits := t.cer.hits + 1 } } = e' := by simpa [hitCell, hne, hr] using h
    obtain ⟨hm, hs, hpress⟩ := resolveCell_mirrors h0 hr
    refine ⟨fun o p spl ht => ?_, hs, hpress⟩
    obtain ⟨spl', hspl', ht'⟩ := hm o p spl ht
    have hne' : otherFrontier (columnAt (decoding o e spl p).cat x) y ≠ y := hne
    have hres : resolveCell x y (dropCell x (otherFrontier (columnAt (decoding o e spl p).cat x) y) (decoding o e spl p))
      = .ok (decoding o t spl' p) := hspl'
    exact ⟨spl', by simp only [hitCell, if_neg hne', hres]; rfl, ht'⟩

theorem absorbColumn_mirrors {x : Nat} {e e' : State} (h0 : -1 ≤ (columnAt e.cat x).lo) (h : absorbColumn x e = .ok e') :
    Mirrors (absorbColumn x) e e' ∧ e'.cer.s = e.cer.s ∧ e'.cer.press = e.cer.press := by
  cases hr : resolveCell x ((columnAt e.cat x).lo + 1) (dropCell x ((columnAt e.cat x).lo + 1) e) with
  | error q => simp [absorbColumn, hr] at h
  | ok t =>
    obtain rfl : { t with cer := { t.cer with absorbs := t.cer.absorbs + 1 } } = e' := by simpa [absorbColumn, hr] using h
    obtain ⟨hm, hs, hpress⟩ := resolveCell_mirrors (by omega) hr
    refine ⟨fun o p spl ht => ?_, hs, hpress⟩
    obtain ⟨spl', hspl', ht'⟩ := hm o p spl ht
    have hres : resolveCell x ((columnAt (decoding o e spl p).cat x).lo + 1)
      (dropCell x ((columnAt (decoding o e spl p).cat x).lo + 1) (decoding o e spl p)) = .ok (decoding o t spl' p) := hspl'
    exact ⟨spl', by simp only [absorbColumn, hres]; rfl, ht'⟩

/-- The replacement cell is scored by the same prediction (44_spline.md R268). -/
theorem pushFrontier_mirrors {x : Nat} (y : Int) {e : State} (hx : x < e.spl.n) (o : State) (p : Option Nat) {spl : Spline}
    (ht : Twin e.spl spl) :
    ∃ spl', pushFrontier (decoding o e spl p) x y = decoding o (pushFrontier e x y) spl' p
      ∧ Twin (pushFrontier e x y).spl spl' := by
  obtain ⟨hfst, ht'⟩ := ht.predict hx
  obtain ⟨-, vc, hvc, -⟩ := ht.right.predict (ht.n ▸ hx)
  have hpred : predict (decoding o e spl p).spl x = predict spl x := rfl
  refine ⟨(predict spl x).2, ?_, ht'⟩
  have hbones : (predict spl x).2.bones = spl.bones := by rw [hvc]
  simp only [pushFrontier, hpred, hfst]
  simp only [decoding, hbones]

theorem afterElim_mirrors {p : Option Nat} {x : Nat} {c : Column} {crit low : Bool} {e e' : State}
    (hinv : ElimInv p x c low e) (h : afterElim crit low x e = .ok e') :
    Mirrors (afterElim crit low x) e e' ∧ e'.cer.s = e.cer.s ∧ e'.cer.press = e.cer.press := by
  have hshape := hinv.inRun.shape
  obtain ⟨hlo, -⟩ := columnAt_ok hshape.cat hinv.inside
  cases crit with
  | true => exact absorbColumn_mirrors hlo h
  | false =>
    cases h
    have hx : x < e.spl.n := by
      rw [hshape.splN, ← hshape.catN, ← hshape.cat.1]
      exact hinv.inside
    refine ⟨fun o q spl ht => ?_, rfl, rfl⟩
    obtain ⟨spl', hspl', ht'⟩ := pushFrontier_mirrors _ hx o q ht
    exact ⟨spl', congrArg Except.ok hspl', ht'⟩

/-! Runs. -/

/-- A run of an encoder from e to t: it counts on from e, emits its count, and decoders that await this count do the same;
the samples are the bones once it was the final run. `runs` gives the run of a decoder, with its press value if it was
read. -/
structure RunMirrored (runs : Option Nat → State → RunEnd) (e t : State) (final : Bool) : Prop where
  counts : e.cer.s ≤ t.cer.s
  press : t.cer.press = e.cer.press ++ [t.cer.s]
  samples : final = true → t.spl.bones = t.cer.plain
  decodes : ∀ (o o' : State) (p : Option Nat) (spl : Spline), Twin e.spl spl → Awaits o t.cer.s p o' →
    ∃ spl', runs p (decoding o e spl p) = .done (decoding o' t spl' none) final ∧ Twin t.spl spl'

/-- With every column resolved the samples are the bones. -/
theorem Shape.bones_eq_plain {s : State} (h : Shape s) (hres : ∀ x < s.cat.cols.length, (columnAt s.cat x).rsv = true) :
    s.spl.bones = s.cer.plain := by
  obtain ⟨hlen, hsam⟩ := (samplesOk_iff s).mp h.samples
  obtain ⟨-, -, ⟨hblen, -⟩, -⟩ := h.spline h.splValid
  have hblen : s.spl.bones.length = s.cer.n := hblen.trans h.splN
  refine List.ext_getElem (hblen.trans hlen.symm) fun x hx hx' => ?_
  have hs := hsam x (hblen ▸ hx)
  have hr := hres x (by rw [h.cat.1, h.catN, ← hblen]; exact hx)
  simp only [SampleOk, hr, if_true] at hs
  obtain ⟨hbone, hplain⟩ := hs
  have := hbone.trans hplain.symm
  simpa [boneAt, plainAt, List.getD_eq_getElem?_getD, hx, hx'] using this

theorem LoopInv.finalRun_mirrored {e t : State} {final : Bool} (h : LoopInv none e) (hm : e.cer.mode = .encode)
    (hr : e.cer.rank = []) (hrun : Machine.finalRun none e = .done t final) : RunMirrored Machine.finalRun e t final := by
  have hdone : Machine.finalRun none e = .done (countRun { tookPress e.cer.s e with
      cer := { (tookPress e.cer.s e).cer with phase := .done } }) true := by
    simp only [Machine.finalRun, hm, h.inRun.emitPress_eq]
  cases hdone.symm.trans hrun
  refine ⟨le_rfl, rfl, fun _ => h.inRun.shape.bones_eq_plain (all_resolved_of_no_rank h.inRun.shape hr h.ranks),
    fun o o' p spl ht hk => ⟨spl, ?_, ht⟩⟩
  have hmode : (decoding o e spl p).cer.mode = .decode := rfl
  have hs : e.cer.s = (decoding o' e spl (some e.cer.s)).cer.s := rfl
  have hpress : pressOf p (decoding o e spl p) = .ok (e.cer.s, decoding o' e spl (some e.cer.s)) := hk.pressOf e spl
  simp only [Machine.finalRun, hmode, hpress, if_pos hs]
  simp [decoding, tookPress, countRun]

theorem PoppedInv.hitRun_mirrored {c : RankEntry} {e t : State} {final : Bool} (h : PoppedInv none c e)
    (hm : e.cer.mode = .encode) (hrun : Machine.hitRun c e = .done t final) :
    final = false ∧ t.cer.s = e.cer.s ∧ t.cer.press = e.cer.press ++ [e.cer.s]
      ∧ ∀ (o : State) (spl : Spline), Twin e.spl spl →
        ∃ spl', Machine.hitRun c (decoding o e spl (some e.cer.s)) = .done (decoding o t spl' none) false
          ∧ Twin t.spl spl' := by
  have hcat := h.inRun.shape.cat
  obtain ⟨hother, -⟩ := frontier_column h.frontier h.two hcat 0
  simp only [Machine.hitRun, hm, h.inRun.emitPress_eq] at hrun
  cases hu : hitCell c.x c.y (tookPress e.cer.s e) with
  | error q => simp [hu] at hrun
  | ok u =>
    simp only [hu, RunEnd.done.injEq] at hrun
    obtain ⟨rfl, rfl⟩ := hrun
    obtain ⟨hmirrors, hs, hpress⟩ := hitCell_mirrors (e := tookPress e.cer.s e) (h.frontier.nonneg hcat) hother hu
    refine ⟨rfl, hs, hpress, fun o spl ht => ?_⟩
    obtain ⟨spl', hspl', ht'⟩ := hmirrors o none spl ht
    rw [decoding_tookPress] at hspl'
    have hmode : (decoding o e spl (some e.cer.s)).cer.mode = .decode := rfl
    refine ⟨spl', ?_, ht'⟩
    simp only [Machine.hitRun, hmode, hspl']
    rfl

/-! One round of the loop. -/

theorem runLoop_final {left : Nat} {p : Option Nat} {s : State} (hr : s.cer.rank = []) :
    runLoop left p s = finalRun p s := by
  rw [runLoop.eq_def, hr]

theorem runLoop_hit {left : Nat} {p q : Option Nat} {c : RankEntry} {rest : List RankEntry} {s t : State}
    (hr : s.cer.rank = c :: rest) (hd : decideHit p c (popped rest s) = .ok (true, q, t)) :
    runLoop left p s = hitRun c t := by
  rw [runLoop.eq_def]
  simp only [hr, hd]

theorem runLoop_again {left : Nat} {p q : Option Nat} {c : RankEntry} {rest : List RankEntry} {s t u : State}
    {cat : Catalogue} {crit : Bool} (hr : s.cer.rank = c :: rest)
    (hd : decideHit p c (popped rest s) = .ok (false, q, t)) (hel : eliminate t.cat c.x c.y = .ok (cat, crit))
    (ha : afterElim crit (c.y == (columnAt t.cat c.x).lo + 1) c.x (countElim cat t) = .ok u) :
    runLoop (left + 1) p s = runLoop left q u := by
  rw [runLoop.eq_def]
  simp only [hr, hd, hel, ha]

/-- The loop of a run, on both sides (45_cer.md R285, R292). -/
theorem LoopInv.runLoop_mirrored {left : Nat} {e t : State} {final : Bool} (h : LoopInv none e) (hm : e.cer.mode = .encode)
    (hrun : Machine.runLoop left none e = .done t final) : RunMirrored (Machine.runLoop left) e t final := by
  induction left using Nat.strong_induction_on generalizing e with
  | _ left ih =>
    have hstep := runLoop_step left none e
    rw [hrun] at hstep
    generalize hr : RunEnd.done t final = r at hstep
    cases hstep with
    | final hrank =>
      obtain ⟨hs, hpress, hsam, hdec⟩ := h.finalRun_mirrored hm hrank hr.symm
      refine ⟨hs, hpress, hsam, fun o o' p spl ht hk => ?_⟩
      have hrank' : (decoding o e spl p).cer.rank = [] := hrank
      rw [runLoop_final hrank']
      exact hdec o o' p spl ht hk
    | @hit c rest _ _ hrank hd =>
      obtain ⟨-, -, rfl, -⟩ := (decideHit_ok hd).resolve_right fun ⟨hm', _⟩ => absurd (hm'.symm.trans hm) nofun
      obtain ⟨rfl, hs, hpress, hdec⟩ := (h.popped hrank).hitRun_mirrored hm hr.symm
      refine ⟨le_of_eq hs.symm, hs ▸ hpress, nofun, fun o o' p spl ht hk => ?_⟩
      have hrank' : (decoding o e spl p).cer.rank = c :: rest := hrank
      have hhit := hk.decideHit c (Machine.popped rest e) spl
      rw [hs, popped_cer, beq_self_eq_true] at hhit
      rw [runLoop_hit hrank' hhit]
      exact hdec o' spl ht
    | @again c rest _ _ u cat crit left' hleft hrank hd hel ha =>
      obtain ⟨-, rfl, rfl, -⟩ := (decideHit_ok hd).resolve_right fun ⟨hm', _⟩ => absurd (hm'.symm.trans hm) nofun
      obtain ⟨x, hinv, hcrit⟩ := (h.popped hrank).eliminate (fun _ => rfl) hel (decideHit_miss hd)
      obtain ⟨hmirrors, hs, hpress⟩ := afterElim_mirrors hinv ha
      have hu := hinv.afterElim hcrit ha
      obtain ⟨u', hu', hkeep⟩ := hinv.afterElim_encodes hm hcrit
      obtain rfl : u' = u := Except.ok.inj (hu'.symm.trans ha)
      obtain ⟨hcounts, hpress', hsam, hdec⟩ := ih left' (by omega) hu (hkeep.mode.trans hm) hr.symm
      have hlt : e.cer.s < t.cer.s := by
        rw [hs] at hcounts
        exact hcounts
      refine ⟨hlt.le, by rw [hpress', hpress]; rfl, hsam, fun o o' p spl ht hk => ?_⟩
      have hrank' : (decoding o e spl p).cer.rank = c :: rest := hrank
      have hmiss := hk.decideHit c (Machine.popped rest e) spl
      rw [popped_cer, beq_eq_false_iff_ne.mpr hlt.ne'] at hmiss
      obtain ⟨spl', hspl', ht'⟩ := hmirrors o' (some t.cer.s) spl ht
      subst hleft
      rw [runLoop_again hrank' hmiss hel hspl']
      exact hdec o' o' _ spl' ht' .read
    | _ => cases hr

/-- A run, on both sides. -/
theorem run_mirrored {e t : State} {final : Bool} (h : BlockInv e) (ha : e.cer.phase = .active) (hm : e.cer.mode = .encode)
    (hrun : run e = .done t final) :
    t.cer.press = e.cer.press ++ [t.cer.s] ∧ (final = true → t.spl.bones = t.cer.plain)
      ∧ ∀ (o o' : State) (spl : Spline), Twin e.spl spl → Supplies o t.cer.s o' →
        ∃ spl', run (decoding o e spl none) = .done (decoding o' t spl' none) final ∧ Twin t.spl spl' := by
  obtain ⟨-, hpress, hsam, hdec⟩ := (loopInv_of_active h ha).runLoop_mirrored hm hrun
  exact ⟨hpress, hsam, fun o o' spl ht hk => hdec o o' none spl ht (.next hk)⟩

/-- The next press values of the decoder o are those of a list, and it is o' once it read them. -/
def SuppliesAll (o : State) (ks : List Nat) (o' : State) : Prop :=
  match ks with
  | [] => o' = o
  | k :: ks => ∃ u, Supplies o k u ∧ SuppliesAll u ks o'

theorem runUntilFinal_final {s t : State} (left : Nat) (h : run s = .done t true) : runUntilFinal left s = .done t true := by
  rw [runUntilFinal.eq_def, h]

theorem runUntilFinal_next {s t : State} (left : Nat) (h : run s = .done t false) :
    runUntilFinal (left + 1) s = runUntilFinal left t := by
  rw [runUntilFinal.eq_def, h]

/-- The runs of a block, on both sides: the encoder emits press data, and a decoder that is supplied with it follows. -/
theorem runUntilFinal_mirrored {left : Nat} {e t : State} (h : BlockInv e) (ha : e.cer.phase = .active)
    (hm : e.cer.mode = .encode) (hrun : runUntilFinal left e = .done t true) :
    t.spl.bones = t.cer.plain ∧ ∃ ks, t.cer.press = e.cer.press ++ ks
      ∧ ∀ (o o' : State) (spl : Spline), Twin e.spl spl → SuppliesAll o ks o' →
        ∃ spl', runUntilFinal left (decoding o e spl none) = .done (decoding o' t spl' none) true ∧ Twin t.spl spl' := by
  induction left using Nat.strong_induction_on generalizing e with
  | _ left ih =>
    obtain heq | ⟨u, left', rfl, hu, heq⟩ := runUntilFinal_cases left e
    · obtain ⟨hpress, hsam, hdec⟩ := run_mirrored h ha hm (heq.symm.trans hrun)
      refine ⟨hsam rfl, [t.cer.s], hpress, fun o o' spl ht ⟨w, hw, hnil⟩ => ?_⟩
      obtain rfl : o' = w := hnil
      obtain ⟨spl', hspl', ht'⟩ := hdec o o' spl ht hw
      exact ⟨spl', runUntilFinal_final left hspl', ht'⟩
    · obtain ⟨hpress, -, hdec⟩ := run_mirrored h ha hm hu
      obtain ⟨hinv, hact⟩ : RunEnd.Ok (.done u false) := hu ▸ run_ok h ha
      obtain ⟨u', final, hu', hkeep, -⟩ := run_encoded h ha hm
      cases hu'.symm.trans hu
      obtain ⟨hsam, ks, hpress', hdec'⟩ := ih left' (by omega) hinv (hact rfl) (hkeep.mode.trans hm) (heq.symm.trans hrun)
      refine ⟨hsam, u.cer.s :: ks, by rw [hpress', hpress, List.append_assoc]; rfl, fun o o' spl ht ⟨w, hw, hks⟩ => ?_⟩
      obtain ⟨spl', hspl', ht'⟩ := hdec o w spl ht hw
      rw [runUntilFinal_next left' hspl']
      exact hdec' w o' spl' ht' hks

/-- All the runs of a new block, on both sides (45_cer.md R292, R300). -/
theorem runBlock_mirrored {e t : State} (h : BlockInv e) (ha : e.cer.phase = .active) (hm : e.cer.mode = .encode)
    (hpress : e.cer.press = []) (hrun : runBlock e = .done t true) :
    t.spl.bones = t.cer.plain ∧ ∀ (o o' : State) (spl : Spline), Twin e.spl spl → SuppliesAll o t.cer.press o' →
      ∃ spl', runBlock (decoding o e spl none) = .done (decoding o' t spl' none) true ∧ Twin t.spl spl' := by
  obtain ⟨hsam, ks, hks, hdec⟩ := runUntilFinal_mirrored h ha hm hrun
  rw [hpress, List.nil_append] at hks
  exact ⟨hsam, fun o o' spl ht hk => hdec o o' spl ht (hks ▸ hk)⟩

/-! The start of a block. -/

theorem pushCells_mirrors {cells : List (Nat × Int)} {e : State} (hcells : ∀ c ∈ cells, c.1 < e.spl.n) (o : State)
    {spl : Spline} (ht : Twin e.spl spl) :
    ∃ spl', pushCells cells (decoding o e spl none) = decoding o (pushCells cells e) spl' none
      ∧ Twin (pushCells cells e).spl spl' := by
  induction cells generalizing e spl with
  | nil => exact ⟨spl, rfl, ht⟩
  | cons c cells ih =>
    obtain ⟨hx, hcells⟩ := List.forall_mem_cons.mp hcells
    obtain ⟨spl', hspl', ht'⟩ := pushFrontier_mirrors c.2 hx o none ht
    obtain ⟨-, hn, -, -⟩ := (predict_sameBones e.spl c.1).fields
    obtain ⟨spl'', hspl'', ht''⟩ := ih (e := pushFrontier e c.1 c.2) (fun d hd => hn ▸ hcells d hd) ht'
    refine ⟨spl'', ?_, ht''⟩
    show pushCells cells (pushFrontier (decoding o e spl none) c.1 c.2) = _
    rw [hspl', hspl'']
    rfl

/-- Block initialisation of a decode with the same geometry, configuration and endpoints as that of an encode, whatever
the cache policies (45_cer.md R290). -/
theorem blockInit_mirrors {psrc psrc' : PressSrc} {n v : Nat} {cfg : Word} {plain : List (Option Int)} {v0 v1 : Int}
    (hg : GeometryOk n v) (hm : MethodOk cfg) (h0 : 0 ≤ v0 ∧ v0 < v) (h1 : 0 ≤ v1 ∧ v1 < v) (s d : State) :
    ∃ spl, blockInit .decode psrc' n v cfg (decodePlain n v0 v1) v0 v1 d
        = decoding (newBlock .decode psrc' n v cfg (decodePlain n v0 v1) v0 v1 d)
            (blockInit .encode psrc n v cfg plain v0 v1 s) spl none
      ∧ Twin (blockInit .encode psrc n v cfg plain v0 v1 s).spl spl := by
  have husable (cache : Word) : Usable (freshSpline n v cfg cache v0 v1) :=
    ⟨rfl, freshSpline_ok cache hg hm h0 h1, cacheValuesOk_of_empty (freshSpline_vc ..)⟩
  have htwin : Twin (newBlock .encode psrc n v cfg plain v0 v1 s).spl (freshSpline n v cfg d.cfgCache v0 v1) :=
    ⟨husable _, husable _, rfl, rfl, rfl, rfl⟩
  refine pushCells_mirrors (fun c hc => ?_) (newBlock .decode psrc' n v cfg (decodePlain n v0 v1) v0 v1 d) htwin
  obtain ⟨⟨hx, -⟩, -⟩ := (mem_genExtreme (by simp [blockCatalogue, setColumn, freshCatalogue]) c.1 c.2).mp hc
  exact hx

/-! The symmetry law. -/

/-- The endpoint samples of a plaintext. -/
theorem plaintext_ends {s : State} {v0 v1 : Nat} (h : EncodeReady s) (h0 : some (v0 : Int) = (plaintext s).head?)
    (h1 : some (v1 : Int) = (plaintext s).getLast?) :
    (plaintext s).getD 0 0 = v0 ∧ (plaintext s).getD (zext s.cfgN - 1) 0 = v1 ∧ v0 < zext s.cfgV ∧ v1 < zext s.cfgV := by
  obtain ⟨-, -, -, hlen, hrange⟩ := h
  have hplen : (plaintext s).length = zext s.cfgN := List.length_take_of_le hlen
  have hr0 := hrange v0 (List.mem_of_mem_head? h0.symm)
  have hr1 := hrange v1 (List.mem_of_mem_getLast? h1.symm)
  rw [List.head?_eq_getElem?] at h0
  rw [List.getLast?_eq_getElem?, hplen] at h1
  refine ⟨?_, ?_, by omega, by omega⟩
  · rw [List.getD_eq_getElem?_getD, ← h0, Option.getD_some]
  · rw [List.getD_eq_getElem?_getD, ← h1, Option.getD_some]

/-- The decoder's block initialisation beside the encoder's. -/
theorem encodeBlock_mirrors {s : State} {v0 v1 : Nat} (psrc psrc' : PressSrc) (h : EncodeReady s)
    (h0 : some (v0 : Int) = (plaintext s).head?) (h1 : some (v1 : Int) = (plaintext s).getLast?) (d : State) :
    ∃ spl, blockInit .decode psrc' (zext s.cfgN) (zext s.cfgV) s.cfgMethod (decodePlain (zext s.cfgN) v0 v1) v0 v1 d
        = decoding (newBlock .decode psrc' (zext s.cfgN) (zext s.cfgV) s.cfgMethod (decodePlain (zext s.cfgN) v0 v1) v0 v1 d)
            (encodeBlock psrc s) spl none
      ∧ Twin (encodeBlock psrc s).spl spl := by
  obtain ⟨hd0, hd1, hv0, hv1⟩ := plaintext_ends h h0 h1
  obtain ⟨hg, hm, -⟩ := h
  unfold encodeBlock
  rw [hd0, hd1]
  exact blockInit_mirrors hg hm (by omega) (by omega) _ d

/-- CER.INIT of a decode with press values from SIN (45_cer.md R298). -/
theorem exec_cerInit_decode {s : State} (harg : s.arg0 = 1#32) (hg : GeometryOk (zext s.cfgN) (zext s.cfgV))
    (hm : MethodOk s.cfgMethod) (hl : locpolField s.cfgCache ≤ 2) (h0 : zext s.arg1 < zext s.cfgV)
    (h1 : zext s.arg2 < zext s.cfgV) :
    exec .cerInit s = .next (complete (blockInit .decode .sin (zext s.cfgN) (zext s.cfgV) s.cfgMethod
      (decodePlain (zext s.cfgN) (zext s.arg1) (zext s.arg2)) (zext s.arg1) (zext s.arg2) s)) := by
  have hpass : require (zext s.arg0 < 4) (illegalErr 0x56#8 (.val (zext s.arg0))) = .ok () :=
    require_pos (by rw [harg]; decide) _
  have hbegin : beginDecode .sin s = .ok _ :=
    (bind_of_ok (cerCheckConfig_pass hg hm hl) _).trans
      ((bind_of_ok (require_pos h0 _) _).trans (bind_of_ok (require_pos h1 _) _))
  have hexec : exec .cerInit s = endCommand s (beginDecode .sin s) := by
    show endCommand s _ = _
    rw [bind_of_ok hpass, harg]
    rfl
  exact hexec.trans (endCommand_of_ok hbegin)

theorem suppliesAll_sin {o : State} {ks : List Nat} {q : List Int} (hsrc : o.cer.psrc = .sin)
    (hq : o.sin = ks.map Int.ofNat ++ q) : SuppliesAll o ks { o with sin := q } := by
  induction ks generalizing o with
  | nil =>
    show { o with sin := q } = o
    rw [← show o.sin = q from hq]
  | cons k ks ih => exact ⟨_, .sin hsrc hq, ih hsrc rfl⟩

/-- CER.BLOCK on an ACTIVE block whose runs come to the final one. -/
theorem exec_cerBlock_done {s t : State} (ha : s.cer.phase = .active) (h : runBlock s = .done t true) :
    exec .cerBlock s = .next (complete { t with
      res0 := BitVec.ofNat 32 t.cer.runIndex, res1 := BitVec.ofNat 32 t.cer.elims }) := by
  have hruns : whenActive runBlock s = runBlock s := by
    simp only [whenActive, require_pos ha]
  show endBlock s _ = _
  rw [hruns, h]
  rfl

/-- The block that an encode starts is ACTIVE with no press data. -/
theorem encodeBlock_begins {s : State} (psrc : PressSrc) (h : EncodeReady s) :
    BlockInv (encodeBlock psrc s) ∧ (encodeBlock psrc s).cer.phase = .active ∧ (encodeBlock psrc s).cer.mode = .encode
      ∧ (encodeBlock psrc s).cer.press = [] ∧ (encodeBlock psrc s).cer.plain = (plaintext s).map some := by
  have hstart := startEncode_eq psrc h
  obtain ⟨hg, hm, -⟩ := h
  have hbegun : Begun s (encodeBlock psrc s) := startEncode_begun hg hm hstart
  refine ⟨hbegun.inv, hbegun.active, ?_⟩
  obtain ⟨vc, rank, heq⟩ := encodeBlock_eq psrc s
  rw [heq]
  exact ⟨rfl, rfl, rfl⟩

/-- Settles O56: the decoder stands where the encoder stands at the start of the block and after its runs. -/
theorem decoderFollowsEncoder : Obligations.DecoderFollowsEncoder := by
  intro s e t d rest h harg he ht hn hv hcfg hl hd0 h0 h1 hsin
  have hinit : exec .cerInit s = .next (complete (encodeBlock .sin s)) := by
    rw [exec_cerInit_encode (.inl harg), if_neg (by omega)]
    exact endCommand_of_ok (beginEncode_eq .sin h)
  obtain rfl := Host.Outcome.next.inj (hinit.symm.trans he)
  obtain ⟨hinv, hact, hmode, hpress, hplain⟩ := encodeBlock_begins .sin h
  obtain ⟨t', ht', hkeep, hdone, -⟩ := runBlock_encoded (s := complete (encodeBlock .sin s)) hinv hact hmode
  obtain rfl := Host.Outcome.next.inj
    ((exec_cerBlock_done (s := complete (encodeBlock .sin s)) hact ht').symm.trans ht)
  obtain ⟨hbones, hdec⟩ := runBlock_mirrored (e := complete (encodeBlock .sin s)) hinv hact hmode hpress ht'
  obtain ⟨-, -, hv0, hv1⟩ := plaintext_ends h h0 h1
  obtain ⟨spl, hstart, htwin⟩ := encodeBlock_mirrors .sin .sin h h0 h1 d
  obtain ⟨hg, hm, -⟩ := h
  have hdecode := exec_cerInit_decode hd0 (by rwa [hn, hv]) (by rwa [hcfg]) hl (by rwa [hv]) (by rwa [hv])
  rw [hn, hv, hcfg] at hdecode
  obtain ⟨o, ho⟩ : ∃ o, o = newBlock .decode .sin (zext s.cfgN) (zext s.cfgV) s.cfgMethod
    (decodePlain (zext s.cfgN) d.arg1.toNat d.arg2.toNat) d.arg1.toNat d.arg2.toNat d := ⟨_, rfl⟩
  have hsrc : (complete o).cer.psrc = .sin := by rw [ho]; rfl
  have hosin : (complete o).sin = t'.cer.press.map Int.ofNat ++ rest := by rw [ho]; exact hsin
  have hstatus : o.status = d.status := by rw [ho]; rfl
  obtain ⟨spl', hruns, htwin'⟩ := hdec (complete o) _ spl htwin (suppliesAll_sin hsrc hosin)
  refine ⟨complete (decoding o (encodeBlock .sin s) spl none), _, hdecode.trans ?_, exec_cerBlock_done hact hruns, ?_⟩
  · rw [ho]
    exact congrArg (fun u => Host.Outcome.next (complete u)) hstart
  · refine ⟨?_, hdone, htwin'.bones.trans (hbones.trans (hkeep.plain.trans hplain)), rfl, List.append_nil _, rfl, rfl, rfl,
      htwin'.bones, rfl⟩
    show statusDone (statusDone o.status) = _
    rw [hstatus]
    rfl

end Sys2Proof.Machine
end

section
/-! The block round trip: CER.DECBLK reads back what CER.ENCBLK wrote (45_cer.md R292, R304..R306). -/

namespace Sys2Proof.Machine

/-! What a block format that was written holds. -/

theorem bitsWrite_eq {b b' w : Bits} {len : Nat} (h : bitsWrite b len w = .ok b') : b' = b ++ w := by
  unfold bitsWrite at h
  split at h
  · cases h
  · exact (Except.ok.inj h).symm

/-- Run lengths that were written stand there codeword after codeword, whatever the codec. -/
theorem foldlM_writePress_ok {c : Codec} {m : Nat} {press : List Nat} {b b' : Bits}
    (h : press.foldlM (writePress c m) b = .ok b') : b' = b ++ codewords c m .unsigned (press.map Int.ofNat) := by
  induction press generalizing b with
  | nil =>
    obtain rfl : b = b' := Except.ok.inj h
    exact (List.append_nil b).symm
  | cons p press ih =>
    rw [List.foldlM_cons, except_bind_ok] at h
    obtain ⟨b₁, hp, h⟩ := h
    rw [ih h, bitsWrite_eq hp, List.append_assoc, List.map_cons, codewords_cons]
    rfl

/-- A block format that was written: the header and the run lengths, all in the domain of the run codec. -/
theorem writeBlock_ok {c : Codec} {cer : Cer} {b b' : Bits} (h : writeBlock c cer b = .ok b') :
    b' = b ++ (blockHeader cer ++ codewords c (zext cer.cfgIotaMax) .unsigned (cer.press.map Int.ofNat))
      ∧ ∀ p ∈ cer.press, inDomain c (zext cer.cfgIotaMax) (adaptIn1 c p) = true := by
  simp only [writeBlock, except_bind_ok] at h
  obtain ⟨_, hdom, b₁, hhead, h⟩ := h
  refine ⟨?_, fun p hp => ?_⟩
  · rw [foldlM_writePress_ok h, bitsWrite_eq hhead, List.append_assoc]
  · exact (require_ok _ _ _).mp (forM_ok hdom p hp)

theorem cerCheckCodec_ok {rcid m : Nat} {c : Codec} (h : cerCheckCodec rcid m = .ok c) :
    codecOfId rcid = some c ∧ requireBound c m = .ok () := by
  cases hc : codecOfId rcid with
  | none => simp [cerCheckCodec, hc] at h
  | some c' =>
    simp only [cerCheckCodec, hc, except_bind_ok] at h
    obtain ⟨_, hbound, h⟩ := h
    obtain rfl : c' = c := Except.ok.inj h
    exact ⟨rfl, hbound⟩

/-- CER.ENCBLK with DONE set: its checks passed, its runs came to the final one, and its format was written. -/
theorem exec_cerEncblk_written {s t : State} (h : EncodeReady s) (he : exec .cerEncblk s = .next t)
    (hd : t.status.done = true) :
    ∃ (c : Codec) (u : State) (bout : Bits), cerCheckCodec (rcidField s.cfgCodec) (zext s.cfgIotaMax) = .ok c
      ∧ runBlock (encodeBlock .sin s) = .done u true ∧ writeBlock c u.cer u.bout = .ok bout
      ∧ t.bout = bout ∧ t.cer = u.cer := by
  have hraised {e : Err} {u : State} (hr : exec .cerEncblk s = .next (raiseError e u)) : False := by
    obtain rfl := Host.Outcome.next.inj (hr.symm.trans he)
    cases hd
  have hstart := startEncode_eq .sin h
  obtain ⟨u, hrun, -⟩ := encodeBlock_runs (psrc := .sin) h
  obtain ⟨hg, hm, hl, -⟩ := h
  have hcfg := cerCheckConfig_pass (s := s) hg hm hl
  cases hc : cerCheckCodec (rcidField s.cfgCodec) (zext s.cfgIotaMax) with
  | error e => exact (hraised (exec_cerEncblk_refused ((bind_of_ok hcfg _).trans (bind_of_error hc _)))).elim
  | ok c =>
    have hbegin : beginEncblk s = .ok (c, encodeBlock .sin s) :=
      (bind_of_ok hcfg _).trans ((bind_of_ok hc _).trans (bind_of_ok hstart _))
    have hexec : exec .cerEncblk s = endEncblk c s (.done u true) := by
      show execCerEncblk s = _
      simp only [execCerEncblk, hbegin, hrun]
    cases hw : writeBlock c u.cer u.bout with
    | error e =>
      have hend : endEncblk c s (.done u true) = .next (raiseError e (failedBlock s u)) := by simp only [endEncblk, hw]
      exact (hraised (hexec.trans hend)).elim
    | ok bout =>
      have hend : endEncblk c s (.done u true) = .next (complete { u with
          bout := bout
          res0 := BitVec.ofNat 32 (bout.length - u.bout.length)
          res1 := BitVec.ofNat 32 u.cer.press.length }) := by simp only [endEncblk, hw]
      obtain rfl := Host.Outcome.next.inj ((hexec.trans hend).symm.trans he)
      exact ⟨c, u, bout, rfl, hrun, hw, rfl, rfl⟩

theorem bound_of_requireBound {c : Codec} {m : Nat} (h : requireBound c m = .ok ()) : isIota c = true → 3 ≤ m := by
  intro hc
  have hbound := (require_ok _ _ _).mp h
  simpa [hc] using hbound

/-! Reading the header. -/

theorem readGammaField_encGamma {n : Nat} (hn : 1 ≤ n) (b : Bits) : readGammaField (encGamma n ++ b) = .ok (n, b) := by
  simp only [readGammaField, decGamma_reads hn b]

theorem readRawField_binMsb {w n : Nat} (hn : n < 2 ^ w) (b : Bits) : readRawField w (binMsb w n ++ b) = .ok (n, b) := by
  simp only [readRawField, readInto_binMsb, Nat.zero_mul, Nat.zero_add, Nat.mod_eq_of_lt hn]

/-- The header of a block format is read back (45_cer.md R304, R306). -/
theorem readHeader_reads {n v method v0 v1 : Nat} (hg : GeometryOk n v) (hmethod : method ≤ 5) (h0 : v0 < v) (h1 : v1 < v)
    (b : Bits) :
    readHeader (encGamma n ++ (encGamma v ++ (binMsb 4 method
        ++ (binMsb (Nat.clog 2 v) v0 ++ (binMsb (Nat.clog 2 v) v1 ++ b)))))
      = .ok { n := n, v := v, method := method, v0 := v0, v1 := v1, rest := b } := by
  obtain ⟨hn, hnmax, hv, hvmax⟩ := hg
  have hpow : v ≤ 2 ^ Nat.clog 2 v := Nat.le_pow_clog (by decide) v
  have hclog : ceilLog2 v = Nat.clog 2 v := ceilLog2_eq_clog (by omega)
  refine (bind_of_ok (readGammaField_encGamma (by omega) _) _).trans ?_
  refine (bind_of_ok (readGammaField_encGamma (by omega) _) _).trans ?_
  refine (bind_of_ok (require_pos ⟨hn, hnmax⟩ _) _).trans ((bind_of_ok (require_pos ⟨hv, hvmax⟩ _) _).trans ?_)
  refine (bind_of_ok (readRawField_binMsb (by omega) _) _).trans ((bind_of_ok (require_pos hmethod _) _).trans ?_)
  simp only [hclog]
  refine (bind_of_ok (readRawField_binMsb (by omega) _) _).trans ?_
  refine (bind_of_ok (readRawField_binMsb (by omega) _) _).trans ?_
  exact (bind_of_ok (require_pos h0 _) _).trans (bind_of_ok (require_pos h1 _) _)

/-! The press values of a block format. -/

theorem suppliesAll_bin {o : State} {c : Codec} {ks : List Nat} {b : Bits} (hsrc : o.cer.psrc = .bin)
    (hc : codecOfId (rcidField o.cer.cfgCodec) = some c) (hbound : requireBound c (zext o.cer.cfgIotaMax) = .ok ())
    (hdom : ∀ k ∈ ks, inDomain c (zext o.cer.cfgIotaMax) (adaptIn1 c k) = true)
    (hb : o.bin = codewords c (zext o.cer.cfgIotaMax) .unsigned (ks.map Int.ofNat) ++ b) :
    SuppliesAll o ks { o with bin := b } := by
  induction ks generalizing o with
  | nil =>
    show { o with bin := b } = o
    rw [← show o.bin = b from hb]
  | cons k ks ih =>
    obtain ⟨hk, hks⟩ := List.forall_mem_cons.mp hdom
    rw [List.map_cons, codewords_cons, List.append_assoc] at hb
    have hword : HasCodeword c (zext o.cer.cfgIotaMax) .unsigned (Int.ofNat k) :=
      ⟨bound_of_requireBound hbound, fun _ => Int.natCast_nonneg k, hk⟩
    have hread := hword.reads (codewords c (zext o.cer.cfgIotaMax) .unsigned (ks.map Int.ofNat) ++ b)
    rw [← hb] at hread
    have hvalue : (adaptOut1 c (adaptIn1 c k).toNat).toNat = k := by
      rw [adaptOut1_adaptIn1 c (Int.natCast_nonneg k), Int.toNat_natCast]
    exact ⟨_, .bin hsrc hc hbound hread hvalue, ih hsrc hc hbound hks rfl⟩

/-! The round trip. -/

theorem beginDecblk_eq {s : State} {c : Codec} {n v method v0 v1 : Nat} {b : Bits}
    (hread : readHeader s.bin = .ok { n := n, v := v, method := method, v0 := v0, v1 := v1, rest := b })
    (hg : GeometryOk n v) (hm : MethodOk (withMethod s.cfgMethod method)) (hl : locpolField s.cfgCache ≤ 2)
    (hc : cerCheckCodec (rcidField s.cfgCodec) (zext s.cfgIotaMax) = .ok c) :
    beginDecblk s = .ok (blockInit .decode .bin n v (withMethod s.cfgMethod method) (decodePlain n v0 v1) v0 v1
      { s with bin := b }) :=
  (bind_of_ok hread _).trans ((bind_of_ok (cerCheckConfig_pass hg hm hl) _).trans (bind_of_ok hc _))

/-- CER.DECBLK once its runs came to the final one and the plaintext fits. -/
theorem exec_cerDecblk_done {s t u : State} {q : List Int} (hb : beginDecblk s = .ok t)
    (hr : runBlock t = .done u true) (hq : seqPushAll u.sout (u.cer.plain.map plainElement) = .ok q) :
    exec .cerDecblk s = .next (complete { u with
      sout := q
      res0 := BitVec.ofNat 32 u.cer.n
      res1 := BitVec.ofNat 32 (s.bin.length - u.bin.length) }) := by
  show execCerDecblk s = _
  simp only [execCerDecblk, hb, endDecblk, hr, hq]

theorem map_plainElement_some (xs : List Int) : (xs.map some).map plainElement = xs := by
  simp [plainElement, Function.comp_def]

/-- The block that CER.ENCBLK ends with, and the bits that it wrote (45_cer.md R304). -/
theorem encodeBlock_written {s u : State} {c : Codec} {bout : Bits} (h : EncodeReady s)
    (hrun : runBlock (encodeBlock .sin s) = .done u true) (hwrite : writeBlock c u.cer u.bout = .ok bout) :
    u.cer.phase = .done ∧ u.cer.n = zext s.cfgN ∧ u.cer.plain = (plaintext s).map some
      ∧ (∀ p ∈ u.cer.press, inDomain c (zext s.cfgIotaMax) (adaptIn1 c p) = true)
      ∧ ∃ v0 v1 : Nat, some (v0 : Int) = (plaintext s).head? ∧ some (v1 : Int) = (plaintext s).getLast?
        ∧ bout = s.bout ++ (encGamma (zext s.cfgN) ++ (encGamma (zext s.cfgV) ++ (binMsb 4 (methodField s.cfgMethod)
          ++ (binMsb (Nat.clog 2 (zext s.cfgV)) v0 ++ (binMsb (Nat.clog 2 (zext s.cfgV)) v1
            ++ codewords c (zext s.cfgIotaMax) .unsigned (u.cer.press.map Int.ofNat)))))) := by
  obtain ⟨hinv, hact, hmode, -⟩ := encodeBlock_begins .sin h
  obtain ⟨u', hrun', hkeep, -⟩ := runBlock_encoded hinv hact hmode
  cases hrun'.symm.trans hrun
  obtain ⟨u', hrun', hphase, -, hframe, hn, hv, hcfg, hplain⟩ := encodeBlock_runs (psrc := .sin) h
  cases hrun'.symm.trans hrun
  obtain ⟨v0, v1, h0, h1, hheader⟩ := blockHeader_of_encode h hn hv hcfg hplain
  obtain ⟨hbout, hdom⟩ := writeBlock_ok hwrite
  have hmax : u.cer.cfgIotaMax = s.cfgIotaMax := by
    obtain ⟨vc, rank, heq⟩ := encodeBlock_eq .sin s
    rw [← hkeep.cer, heq]
    rfl
  have hout : u.bout = s.bout := by rw [← hframe]
  rw [hmax] at hbout hdom
  refine ⟨hphase, hn, hplain, hdom, v0, v1, h0.symm, h1.symm, ?_⟩
  rw [hbout, hout, hheader]
  simp only [List.append_assoc]
  rfl

/-- Settles O58: the header gives the block that the encoder began, and its press values follow it in BIN. -/
theorem blockRoundTrip : Obligations.BlockRoundTrip := by
  intro s t d bits rest h he hd hbits hcfg hcodec hmax hl hbin ⟨hroom, hrange⟩
  obtain ⟨c, u, bout, hc, hrun, hwrite, hbout, hcer⟩ := exec_cerEncblk_written h he hd
  obtain ⟨hphase, hn, hplain, hdom, v0, v1, h0, h1, hwritten⟩ := encodeBlock_written h hrun hwrite
  obtain ⟨hinv, hact, hmode, hpress, -⟩ := encodeBlock_begins .sin h
  obtain ⟨hbones, hdec⟩ := runBlock_mirrored hinv hact hmode hpress hrun
  obtain ⟨-, -, hv0, hv1⟩ := plaintext_ends h h0 h1
  obtain ⟨hid, hbound⟩ := cerCheckCodec_ok hc
  rw [← hbout, hbits, List.append_cancel_left_eq] at hwritten
  have hbin' : d.bin = _ := hbin.trans (congrArg (· ++ rest) hwritten)
  simp only [List.append_assoc] at hbin'
  obtain ⟨spl, hstart, htwin⟩ := encodeBlock_mirrors .sin .bin h h0 h1
    { d with bin := codewords c (zext s.cfgIotaMax) .unsigned (u.cer.press.map Int.ofNat) ++ rest }
  obtain ⟨hg, hm, -⟩ := h
  obtain ⟨hmethod, -⟩ := id hm
  have hread := readHeader_reads hg hmethod hv0 hv1
    (codewords c (zext s.cfgIotaMax) .unsigned (u.cer.press.map Int.ofNat) ++ rest)
  rw [← hbin'] at hread
  have hbegin := beginDecblk_eq (c := c) hread hg (by rwa [hcfg]) hl (by rw [hcodec, hmax]; exact hc)
  rw [hcfg, hstart] at hbegin
  have hall := suppliesAll_bin (c := c) (ks := u.cer.press) (b := rest)
    (o := newBlock .decode .bin (zext s.cfgN) (zext s.cfgV) s.cfgMethod (decodePlain (zext s.cfgN) v0 v1) v0 v1
      { d with bin := codewords c (zext s.cfgIotaMax) .unsigned (u.cer.press.map Int.ofNat) ++ rest })
    rfl (by rw [← hid, ← hcodec]; rfl) (by rw [← hbound, ← hmax]; rfl) (by rw [← hmax] at hdom; exact hdom)
    (by rw [← hmax]; rfl)
  obtain ⟨spl', hruns, htwin'⟩ := hdec _ _ spl htwin hall
  have hsamples : spl'.bones = (plaintext s).map some := htwin'.bones.trans (hbones.trans hplain)
  refine ⟨_, exec_cerDecblk_done (q := d.sout ++ plaintext s) hbegin hruns ?_, rfl, rfl, rfl, ?_, ?_, hphase, ?_, rfl, rfl⟩
  · show seqPushAll d.sout (spl'.bones.map plainElement) = _
    rw [hsamples, map_plainElement_some]
    exact seqPushAll_ok _ _ hroom hrange
  · show BitVec.ofNat 32 u.cer.n = _
    rw [hn, zext, BitVec.ofNat_toNat, BitVec.setWidth_eq]
  · show BitVec.ofNat 32 (d.bin.length - rest.length) = _
    rw [hbin, List.length_append, Nat.add_sub_cancel_right]
  · rw [hcer]
    exact List.append_nil _

end Sys2Proof.Machine
end

section
/-! Predictions by each METHOD (44_spline.md R244..R251, R253, R254, R256, R258). -/

namespace Sys2Proof.Machine

/-! Rational values: comparing, rounding, clipping. -/

theorem Num.compare_rat_lt {p q : Rat} : (Num.rat p).compare q = .lt ↔ p < q := by
  by_cases h : p < q
  · simp [Num.compare, h]
  · by_cases h' : q < p <;> simp [Num.compare, h, h']

theorem Num.compare_rat_gt {p q : Rat} : (Num.rat p).compare q = .gt ↔ q < p := by
  by_cases h : p < q
  · simp [Num.compare, h, h.le]
  · by_cases h' : q < p <;> simp [Num.compare, h, h']

theorem roundHalfEven_intCast (n : Int) : roundHalfEven (n : Rat) = n := by
  have hfloor : (Num.rat (n : Rat)).floor = n := Rat.floor_intCast n
  have hlt : (Num.rat (n : Rat)).compare (((n : Int) : Rat) + 1 / 2) = .lt := Num.compare_rat_lt.mpr (by linarith)
  simp only [roundHalfEven, Num.round, hfloor, hlt]

theorem Num.clip_rat (q lo hi : Rat) : (Num.rat q).clip lo hi = .rat (min (max q lo) hi) := by
  have hlow : (if (Num.rat q).compare lo = .lt then Num.rat lo else .rat q) = .rat (max q lo) := by
    simp only [Num.compare_rat_lt]
    split
    · rw [max_eq_right (le_of_lt ‹_›)]
    · rw [max_eq_left (not_lt.mp ‹_›)]
  simp only [Num.clip, hlow, Num.compare_rat_gt]
  split
  · rw [min_eq_right (le_of_lt ‹_›)]
  · rw [min_eq_left (not_lt.mp ‹_›)]

/-! Slopes. -/

/-- Each Hermite slope is the mean of two of the segment slopes, which may be the same one. -/
theorem leftSlope_mean (sr : Surroundings) (l1 r1 : Nat × Int) :
    ∃ a ∈ segSlopes sr l1 r1, ∃ b ∈ segSlopes sr l1 r1, leftSlope sr l1 r1 = (a + b) / 2 := by
  unfold leftSlope segSlopes
  cases sr.l2 with
  | none => exact ⟨segSlope l1 r1, by simp, segSlope l1 r1, by simp, by ring⟩
  | some l2 => exact ⟨segSlope l2 l1, by simp, segSlope l1 r1, by simp, rfl⟩

theorem rightSlope_mean (sr : Surroundings) (l1 r1 : Nat × Int) :
    ∃ a ∈ segSlopes sr l1 r1, ∃ b ∈ segSlopes sr l1 r1, rightSlope sr l1 r1 = (a + b) / 2 := by
  unfold rightSlope segSlopes
  cases sr.r2 with
  | none => exact ⟨segSlope l1 r1, by simp, segSlope l1 r1, by simp, by ring⟩
  | some r2 => exact ⟨segSlope l1 r1, by simp, segSlope r1 r2, by simp, rfl⟩

/-- A mean of slopes has the sign that they all have, so the monotonic filter leaves it (44_spline.md R256). -/
theorem monotonicSlope_mean {ds : List Rat} {a b m : Rat} (ha : a ∈ ds) (hb : b ∈ ds) (hm : m = (a + b) / 2) :
    monotonicSlope ds m = m := by
  unfold monotonicSlope
  split
  · rename_i hpos
    simp only [List.all_eq_true, decide_eq_true_eq] at hpos
    have h1 := hpos a ha
    have h2 := hpos b hb
    exact max_eq_left (by linarith)
  · split
    · rename_i hneg
      simp only [List.all_eq_true, decide_eq_true_eq] at hneg
      have h1 := hneg a ha
      have h2 := hneg b hb
      exact min_eq_left (by linarith)
    · rfl

/-- The monotonic filter changes no Hermite value (44_spline.md R256). -/
theorem hermiteValue_filter (mono : Bool) (sr : Surroundings) (l1 r1 : Nat × Int) (x : Nat) :
    hermiteValue mono sr l1 r1 x = hermiteValue false sr l1 r1 x := by
  obtain ⟨a, ha, b, hb, hl⟩ := leftSlope_mean sr l1 r1
  obtain ⟨c, hc, d, hd, hr⟩ := rightSlope_mean sr l1 r1
  cases mono with
  | true =>
    simp only [hermiteValue, monotonicSlope_mean ha hb hl, monotonicSlope_mean hc hd hr, if_true, Bool.false_eq_true,
      if_false]
  | false => rfl

/-- With the slope of the chord at both ends the cubic is the chord (44_spline.md R249). -/
theorem hermiteAt_chord {t h y0 y1 : Rat} (hh : h ≠ 0) :
    hermiteAt t h y0 y1 ((y1 - y0) / h) ((y1 - y0) / h) = y0 + (y1 - y0) * t := by
  unfold hermiteAt
  field_simp
  ring

theorem hermiteValue_two_bones {x : Nat} {sr : Surroundings} {p q : Nat × Int} (h : Around x sr p q) (hl : sr.l2 = none)
    (hr : sr.r2 = none) : hermiteValue false sr p q x = linearValue p q x := by
  have hx : ((q.1 : Rat) - p.1) ≠ 0 := by
    have hlt : (p.1 : Rat) < q.1 := by exact_mod_cast h.left.trans h.right
    linarith
  simp only [hermiteValue, leftSlope, rightSlope, hl, hr, Bool.false_eq_true, if_false]
  exact hermiteAt_chord hx

theorem ratCast_absDist (x i : Nat) : ((absDist x i : Nat) : Rat) = |(x : Rat) - i| := by
  exact_mod_cast congrArg (Int.cast : Int → Rat) (natCast_absDist x i)

/-! Filter chains. -/

theorem filterChain_of_none {cfg : Word} (h : nfiltField cfg = 0) : filterChain cfg = [] := by
  simp [filterChain, h]

/-- The prediction of METHOD 4 on a chain without the monotonic filter. -/
theorem purePredict_hermite {spl : Spline} {x : Nat} {l1 r1 : Nat × Int} (hb : boneAt spl.bones x = none)
    (hl : (surroundings spl.bones x).l1 = some l1) (hr : (surroundings spl.bones x).r1 = some r1)
    (hm : methodField spl.cfg = 4) :
    purePredict spl x = ((filterChain spl.cfg).foldl (applyFilter spl.v l1 r1)
      (.rat (hermiteValue false (surroundings spl.bones x) l1 r1 x))).finalInt := by
  refine purePredict_nonbone hb hl hr ?_
  simp only [methodValue, hm, hermiteValue_filter (hasMonotonic spl.cfg)]

/-- Settles O48: the value of the method goes through the filters of the chain, and is then rounded. -/
theorem methodValues : Obligations.MethodValues := by
  refine ⟨fun spl x x0 x1 y0 y1 hb hl hr => ?_,
    fun bones x l1 r1 hb hl hr => ⟨hermiteValue_filter _ _ _ _ _, fun h2 h2' => ?_⟩⟩
  · intro sr h t dM mL mR cubic near power
    have hmL : mL = leftSlope sr (x0, y0) (x1, y1) := by
      simp only [mL, leftSlope]
      cases sr.l2 <;> rfl
    have hmR : mR = rightSlope sr (x0, y0) (x1, y1) := by
      simp only [mR, rightSlope]
      cases sr.r2 <;> rfl
    have hcubic : hermiteValue false sr (x0, y0) (x1, y1) x = cubic := by
      simp only [cubic, hmL, hmR]
      rfl
    have hnone {r : Num} (hn : nfiltField spl.cfg = 0) (hm : methodValue spl.cfg sr (x0, y0) (x1, y1) x = some r) :
        purePredict spl x = r.round := by
      rw [purePredict_nonbone hb hl hr hm, filterChain_of_none hn]
      rfl
    have hclip {lo hi : Rat} (hm : methodField spl.cfg = 4) (hf : (filterChain spl.cfg).foldl
        (applyFilter spl.v (x0, y0) (x1, y1)) (.rat cubic) = (Num.rat cubic).clip lo hi) :
        purePredict spl x = roundHalfEven (min (max cubic lo) hi) := by
      rw [purePredict_hermite hb hl hr hm, hcubic, hf, Num.clip_rat]
      rfl
    refine ⟨fun hn => ⟨fun hm => ?hold, fun hm => ?nearest, fun hm => ?linear, fun hm => ?sine, fun hm => ?hermite,
      fun hm hd => ?idw⟩, fun hm => ⟨fun hf => hclip hm ?spanClip, fun hf => hclip hm ?globalClip⟩⟩
    case hold => exact (hnone hn (by simp only [methodValue, hm])).trans (roundHalfEven_intCast y0)
    case nearest =>
      exact (hnone hn (by simp only [methodValue, hm]; rfl)).trans (roundHalfEven_intCast _)
    case linear => exact hnone hn (by simp only [methodValue, hm]; rfl)
    case sine => exact hnone hn (by simp only [methodValue, hm]; rfl)
    case hermite =>
      rw [purePredict_hermite hb hl hr hm, hcubic, filterChain_of_none hn]
      rfl
    case idw =>
      have hpower (q : Nat × Int) : ((absDist x q.1 : Nat) : Rat) ^ idwpField spl.cfg = power q := by rw [ratCast_absDist]
      have hm' : methodValue spl.cfg sr (x0, y0) (x1, y1) x = some (.rat (idwValue (idwpField spl.cfg) sr x)) := by
        simp only [methodValue, hm, hd, if_true]
      refine (hnone hn hm').trans ?_
      simp only [idwValue, hpower]
      rfl
    case spanClip => rw [hf]; rfl
    case globalClip => rw [hf]; rfl
  · exact hermiteValue_two_bones (surroundings_around hl hr) h2 h2'

end Sys2Proof.Machine
end

section
/-! The exact comparison of sinusoidal values, and Round (44_spline.md R247, R255). -/

namespace Sys2Proof.Machine

/-! The scaled Chebyshev recurrence at c = cos(π·φ): its terms are sines of multiples of the angle. -/

/-- The sign of a sine tells the parity of the half turn. -/
theorem sin_pos_iff_even {n : Nat} {y : ℝ} (h0 : n < y) (h1 : y < n + 1) : 0 < Real.sin (Real.pi * y) ↔ Even n := by
  have hpos : 0 < Real.sin (Real.pi * y - n * Real.pi) := by
    have hpi := Real.pi_pos
    apply Real.sin_pos_of_pos_of_lt_pi <;> nlinarith
  rw [Real.sin_sub_nat_mul_pi] at hpos
  rcases Nat.even_or_odd n with hn | hn
  · rw [hn.neg_one_pow, one_mul] at hpos
    exact iff_of_true hpos hn
  · rw [hn.neg_one_pow] at hpos
    exact iff_of_false (by linarith) (Nat.not_even_iff_odd.mpr hn)

/-- Between two neighbouring half turns but one, a sine vanishes at the half turn in between alone. -/
theorem sin_eq_zero_iff_half_turn {n : Nat} {y : ℝ} (h0 : n < y) (h1 : y < n + 2) :
    Real.sin (Real.pi * y) = 0 ↔ y = n + 1 := by
  have hpi := Real.pi_pos
  constructor
  · intro h
    obtain ⟨k, hk⟩ := Real.sin_eq_zero_iff.mp h
    have hy : y = k := by
      rw [mul_comm] at hk
      exact (mul_left_cancel₀ hpi.ne' hk).symm
    rw [hy] at h0 h1 ⊢
    have hlo : (n : Int) < k := by exact_mod_cast h0
    have hhi : k < (n : Int) + 2 := by exact_mod_cast h1
    obtain rfl : k = n + 1 := by omega
    push_cast
    ring
  · rintro rfl
    have h := Real.sin_nat_mul_pi (n + 1)
    rw [mul_comm] at h
    exact_mod_cast h

/-- The recurrence after j steps at c = cos(π·φ) with denominator q: the last two terms, the last sign met, and the number
of sign changes, which is the number of half turns passed by the angle (j + 1)·π·φ. -/
structure ChebAt (q : Int) (φ : ℝ) (j : Nat) (prev w : Int) (sg : Bool) (changes : Nat) : Prop where
  prev_eq : q * prev * Real.sin (Real.pi * φ) = q ^ j * Real.sin (Real.pi * (j * φ))
  w_eq : w * Real.sin (Real.pi * φ) = q ^ j * Real.sin (Real.pi * ((j + 1) * φ))
  sign : sg = true ↔ Even changes
  passed : changes < (j + 1) * φ
  reached : (j + 1) * φ ≤ changes + 1

theorem sin_pi_mul_pos {φ : ℝ} (h0 : 0 < φ) (h1 : φ < 1) : 0 < Real.sin (Real.pi * φ) := by
  have hpi := Real.pi_pos
  apply Real.sin_pos_of_pos_of_lt_pi <;> nlinarith

theorem ChebAt.next_eq {p q : Int} {φ : ℝ} {j changes : Nat} {prev w : Int} {sg : Bool}
    (h : ChebAt q φ j prev w sg changes) (hp : p = q * Real.cos (Real.pi * φ)) :
    ((2 * p * w - q * q * prev : Int) : ℝ) * Real.sin (Real.pi * φ)
      = q ^ (j + 1) * Real.sin (Real.pi * (((j + 1 : Nat) + 1) * φ)) := by
  have hsum : Real.sin (Real.pi * (((j + 1 : Nat) + 1) * φ))
      = 2 * Real.cos (Real.pi * φ) * Real.sin (Real.pi * ((j + 1) * φ)) - Real.sin (Real.pi * (j * φ)) := by
    have hadd := Real.sin_add (Real.pi * ((j + 1) * φ)) (Real.pi * φ)
    have hsub := Real.sin_sub (Real.pi * ((j + 1) * φ)) (Real.pi * φ)
    rw [show Real.pi * ((j + 1) * φ) - Real.pi * φ = Real.pi * (j * φ) by ring] at hsub
    rw [show Real.pi * ((j + 1) * φ) + Real.pi * φ = Real.pi * (((j + 1 : Nat) + 1) * φ) by push_cast; ring] at hadd
    rw [hadd, hsub]
    ring
  have hprev := h.prev_eq
  have hw := h.w_eq
  rw [hsum]
  push_cast
  rw [hp]
  linear_combination (2 * q * Real.cos (Real.pi * φ)) * hw - q * hprev

/-- One step of the recurrence, as the model takes it. -/
theorem ChebAt.step {p q : Int} {φ : ℝ} {j changes : Nat} {prev w next : Int} {sg : Bool}
    (h : ChebAt q φ j prev w sg changes) (hq : 0 < q) (hp : p = q * Real.cos (Real.pi * φ)) (h0 : 0 < φ) (h1 : φ < 1)
    (hnext : next = 2 * p * w - q * q * prev) :
    (next = 0 → ChebAt q φ (j + 1) w next sg changes)
      ∧ (next ≠ 0 → ChebAt q φ (j + 1) w next (decide (0 < next))
        (if decide (0 < next) = sg then changes else changes + 1)) := by
  have hsin := sin_pi_mul_pos h0 h1
  have hpow : (0 : ℝ) < q ^ (j + 1) := by exact_mod_cast pow_pos hq (j + 1)
  have hweq := h.next_eq hp
  rw [← hnext] at hweq
  have hprev : q * w * Real.sin (Real.pi * φ) = q ^ (j + 1) * Real.sin (Real.pi * ((j + 1 : Nat) * φ)) := by
    have hw := h.w_eq
    push_cast
    linear_combination q * hw
  obtain ⟨-, -, hsign, hpassed, hreached⟩ := h
  generalize hx : (((j + 1 : Nat) : ℝ) + 1) * φ = x at hweq
  have hx' : x = (j + 1) * φ + φ := by rw [← hx]; push_cast; ring
  have hlo : changes < x := by linarith
  have hhi : x < changes + 2 := by linarith
  have hzero : next = 0 ↔ x = changes + 1 := by
    rw [← sin_eq_zero_iff_half_turn hlo hhi]
    constructor
    · rintro rfl
      simpa [hpow.ne'] using hweq
    · intro hs
      simpa [hs, hsin.ne'] using hweq
  have hpos : 0 < next ↔ 0 < Real.sin (Real.pi * x) := by
    rw [← mul_pos_iff_of_pos_left hpow, ← hweq, mul_pos_iff_of_pos_right hsin, Int.cast_pos]
  refine ⟨fun hn => ⟨hprev, by rw [hx]; exact hweq, hsign, by rw [hx]; exact hlo, ?_⟩, fun hn => ?_⟩
  · rw [hx, hzero.mp hn]
  · rcases lt_or_gt_of_ne (mt hzero.mpr hn) with hlt | hgt
    · have hsg : decide (0 < next) = sg := by
        rw [Bool.eq_iff_iff, decide_eq_true_eq, hpos, hsign, sin_pos_iff_even hlo hlt]
      rw [hsg, if_pos rfl]
      exact ⟨hprev, by rw [hx]; exact hweq, hsign, by rw [hx]; exact hlo, by rw [hx]; exact hlt.le⟩
    · have heven : 0 < next ↔ Even (changes + 1) := by
        rw [hpos, sin_pos_iff_even (n := changes + 1) (by push_cast; exact hgt) (by push_cast; linarith)]
      have hsg : decide (0 < next) ≠ sg := by
        rw [Ne, Bool.eq_iff_iff, decide_eq_true_eq, heven, hsign, Nat.even_add_one]
        exact not_iff_self
      rw [if_neg hsg]
      exact ⟨hprev, by rw [hx]; exact hweq, by rw [decide_eq_true_eq, heven], by rw [hx]; push_cast; exact hgt,
        by rw [hx]; push_cast; linarith⟩

/-- The recurrence run for k more steps counts the half turns passed, and its last term vanishes on a half turn. -/
theorem ChebAt.run {p q : Int} {φ : ℝ} {j changes : Nat} {prev w : Int} {sg : Bool}
    (h : ChebAt q φ j prev w sg changes) (hq : 0 < q) (hp : p = q * Real.cos (Real.pi * φ)) (h0 : 0 < φ) (h1 : φ < 1)
    (k : Nat) : ∃ prev' sg', ChebAt q φ (j + k) prev' (chebChanges p q prev w sg changes k).2 sg'
      (chebChanges p q prev w sg changes k).1 := by
  induction k generalizing j prev w sg changes with
  | zero => exact ⟨prev, sg, h⟩
  | succ k ih =>
    obtain ⟨hzero, hne⟩ := h.step hq hp h0 h1 rfl
    unfold chebChanges
    dsimp only
    rw [show j + (k + 1) = j + 1 + k by omega]
    split
    · exact ih (hzero ‹_›)
    · exact ih (hne ‹_›)

/-- The count that cosCompare takes: the half turns before h·π·φ, and whether the last term vanishes. -/
theorem chebChanges_counts {p q : Int} {φ : ℝ} (hq : 0 < q) (hp : p = q * Real.cos (Real.pi * φ)) (h0 : 0 < φ) (h1 : φ < 1)
    {h : Nat} (hh : 1 ≤ h) :
    (chebChanges p q 0 1 true 0 (h - 1)).1 < h * φ ∧ h * φ ≤ (chebChanges p q 0 1 true 0 (h - 1)).1 + 1
      ∧ ((chebChanges p q 0 1 true 0 (h - 1)).2 = 0 ↔ h * φ = (chebChanges p q 0 1 true 0 (h - 1)).1 + 1) := by
  have hstart : ChebAt q φ 0 0 1 true 0 := ⟨by simp, by simp, by simp, by simpa using h0, by simpa using h1.le⟩
  obtain ⟨prev, sg, hend⟩ := hstart.run hq hp h0 h1 (h - 1)
  generalize chebChanges p q 0 1 true 0 (h - 1) = r at hend ⊢
  have hcast : ((0 + (h - 1) : Nat) : ℝ) + 1 = h := by
    exact_mod_cast (by omega : 0 + (h - 1) + 1 = h)
  obtain ⟨-, hw, -, hpassed, hreached⟩ := hend
  rw [hcast] at hw hpassed hreached
  refine ⟨hpassed, hreached, ?_⟩
  have hsin := sin_pi_mul_pos h0 h1
  have hpow : (0 : ℝ) < q ^ (0 + (h - 1)) := by exact_mod_cast pow_pos hq _
  rw [← sin_eq_zero_iff_half_turn hpassed (by linarith)]
  constructor
  · intro hr
    rw [hr, Int.cast_zero, zero_mul] at hw
    exact (mul_eq_zero.mp hw.symm).resolve_left hpow.ne'
  · intro hs
    simpa [hs, hsin.ne'] using hw

/-! The comparison of a cosine with a rational. -/

/-- A three-way comparison of two real numbers that is right. -/
def Compares (o : Ordering) (r q : ℝ) : Prop := (o = .lt ↔ r < q) ∧ (o = .gt ↔ q < r)

theorem compares_lt {r q : ℝ} (h : r < q) : Compares .lt r q := ⟨by simpa, by simpa using h.le⟩

theorem compares_gt {r q : ℝ} (h : q < r) : Compares .gt r q := ⟨by simpa using h.le, by simpa⟩

theorem compares_eq {r q : ℝ} (h : r = q) : Compares .eq r q := ⟨by simp [h], by simp [h]⟩

/-- A comparison is carried along by a map that keeps the order of the two numbers. -/
theorem Compares.of_lt_iff {o : Ordering} {r q r' q' : ℝ} (h : Compares o r q) (hlt : r' < q' ↔ r < q)
    (hgt : q' < r' ↔ q < r) : Compares o r' q' := ⟨h.1.trans hlt.symm, h.2.trans hgt.symm⟩

theorem Compares.swap {o : Ordering} {r q r' q' : ℝ} (h : Compares o r q) (hlt : r' < q' ↔ q < r)
    (hgt : q' < r' ↔ r < q) : Compares o.swap r' q' := by
  obtain ⟨h1, h2⟩ := h
  cases o <;> simp_all [Compares]

theorem exists_angle {c : ℝ} (h0 : -1 < c) (h1 : c < 1) : ∃ φ : ℝ, 0 < φ ∧ φ < 1 ∧ c = Real.cos (Real.pi * φ) := by
  have hpi := Real.pi_pos
  have hlt : Real.arccos c < Real.pi :=
    lt_of_le_of_ne (Real.arccos_le_pi c) fun h => absurd (Real.arccos_eq_pi.mp h) (not_le.mpr h0)
  refine ⟨Real.arccos c / Real.pi, div_pos (Real.arccos_pos.mpr h1) hpi, (div_lt_one hpi).mpr hlt, ?_⟩
  rw [mul_div_cancel₀ _ hpi.ne', Real.cos_arccos h0.le h1.le]

/-- The comparison of cos(π·a/h) with a rational is exact. -/
theorem cosCompare_compares {a h : Nat} (h0 : 0 < a) (hah : a < h) (c : Rat) :
    Compares (cosCompare a h c) (Real.cos (Real.pi * (a / h))) c := by
  have hpi := Real.pi_pos
  have hh : (0 : ℝ) < h := by exact_mod_cast h0.trans hah
  have hfrac : 0 < (a : ℝ) / h ∧ (a : ℝ) / h < 1 :=
    ⟨div_pos (by exact_mod_cast h0) hh, (div_lt_one hh).mpr (by exact_mod_cast hah)⟩
  generalize hf : (a : ℝ) / h = f at hfrac
  obtain ⟨hf0, hf1⟩ := hfrac
  have hfh : f * h = a := by rw [← hf]; field_simp
  have hangle : 0 ≤ Real.pi * f ∧ Real.pi * f ≤ Real.pi := ⟨by nlinarith, by nlinarith⟩
  unfold cosCompare
  split
  · rename_i hc
    have hc : (1 : ℝ) ≤ c := by exact_mod_cast hc
    have hlt := Real.cos_lt_cos_of_nonneg_of_le_pi le_rfl hangle.2 (by nlinarith : 0 < Real.pi * f)
    rw [Real.cos_zero] at hlt
    exact compares_lt (by linarith)
  · split
    · rename_i hc
      have hc : (c : ℝ) ≤ -1 := by exact_mod_cast hc
      have hgt := Real.cos_lt_cos_of_nonneg_of_le_pi hangle.1 le_rfl (by nlinarith : Real.pi * f < Real.pi)
      rw [Real.cos_pi] at hgt
      exact compares_gt (by linarith)
    · rename_i hc1 hc0
      have hc1 : (c : ℝ) < 1 := by exact_mod_cast not_le.mp hc1
      have hc0 : (-1 : ℝ) < c := by exact_mod_cast not_le.mp hc0
      obtain ⟨φ, hφ0, hφ1, hcos⟩ := exists_angle hc0 hc1
      have hden : (0 : Int) < c.den := by exact_mod_cast c.pos
      have hnum : ((c.num : Int) : ℝ) = ((c.den : Int) : ℝ) * Real.cos (Real.pi * φ) := by
        rw [← hcos, Rat.cast_def]
        field_simp
        simp
      obtain ⟨hpassed, hreached, hzero⟩ := chebChanges_counts hden hnum hφ0 hφ1 (by omega : 1 ≤ h)
      generalize chebChanges c.num c.den 0 1 true 0 (h - 1) = r at hpassed hreached hzero ⊢
      rw [hcos]
      have hmono {x y : ℝ} (hx : 0 ≤ x) (hy : y ≤ 1) (hxy : x < y) :
          Real.cos (Real.pi * y) < Real.cos (Real.pi * x) :=
        Real.cos_lt_cos_of_nonneg_of_le_pi (by positivity) (by nlinarith) (by nlinarith)
      dsimp only
      split
      · rename_i ha
        have ha : (a : ℝ) ≤ r.1 := by exact_mod_cast ha
        exact compares_gt (hmono hf0.le hφ1.le (by nlinarith))
      · rename_i ha
        have ha : (r.1 : ℝ) + 1 ≤ a := by exact_mod_cast Nat.lt_of_not_le ha
        split
        · rename_i heq
          obtain ⟨hw, ha⟩ := heq
          have ha : (a : ℝ) = r.1 + 1 := by exact_mod_cast ha
          have hfφ : f = φ := mul_right_cancel₀ hh.ne' (by linarith [hzero.mp hw])
          exact compares_eq (by rw [hfφ])
        · rename_i hne
          refine compares_lt (hmono hφ0.le hf1.le (lt_of_mul_lt_mul_right ?_ hh.le))
          refine lt_of_le_of_ne (by linarith) fun heq => hne ⟨hzero.mpr (by linarith), ?_⟩
          have ha : (a : ℝ) = r.1 + 1 := by linarith
          exact_mod_cast ha

end Sys2Proof.Machine
end

section
/-! The values of interpolations as real numbers: comparing, rounding and clipping them is exact (44_spline.md
R247, R253..R255). -/

namespace Sys2Proof.Machine

/-- The real number that a value of an interpolation stands for (44_spline.md R247). -/
noncomputable def Num.real (r : Num) : ℝ :=
  match r with
  | .rat q => q
  | .sine y0 y1 a h => y0 + (y1 - y0) * (1 / 2 * (1 - Real.cos (Real.pi * (a / h))))

/-- A sinusoidal value is taken strictly between its ends. -/
def Num.Inner (r : Num) : Prop :=
  match r with
  | .rat _ => True
  | .sine _ _ a h => 0 < a ∧ a < h

theorem Num.real_rat (q : Rat) : (Num.rat q).real = q := rfl

/-! Comparing. -/

theorem compares_rat (p q : Rat) : Compares ((Num.rat p).compare q) p q :=
  ⟨Num.compare_rat_lt.trans Rat.cast_lt.symm, Num.compare_rat_gt.trans Rat.cast_lt.symm⟩

/-- The sinusoidal value against q is the cosine against the point of [-1, 1] that q stands at, read backwards on a rising
segment. -/
theorem compares_sine {y0 y1 : Int} {a h : Nat} (h0 : 0 < a) (hah : a < h) (q : Rat) :
    Compares ((Num.sine y0 y1 a h).compare q) (Num.sine y0 y1 a h).real q := by
  have hcos := cosCompare_compares h0 hah (1 - 2 * (q - y0) / ((y1 - y0 : Int) : Rat))
  simp only [Num.compare, Num.real]
  generalize Real.cos (Real.pi * (a / h)) = c at hcos ⊢
  generalize cosCompare a h (1 - 2 * (q - y0) / ((y1 - y0 : Int) : Rat)) = o at hcos ⊢
  push_cast at hcos
  by_cases heq : y1 = y0
  · simp only [heq, if_true, sub_self, zero_mul, add_zero]
    have hrat := compares_rat (y0 : Rat) q
    rw [Rat.cast_intCast] at hrat
    exact hrat
  · simp only [heq, if_false]
    have hd : ((y1 : ℝ) - y0) ≠ 0 := sub_ne_zero.mpr (by exact_mod_cast heq)
    generalize he : 2 * ((q : ℝ) - y0) / (y1 - y0) = e at hcos
    have hq : (q : ℝ) = y0 + (y1 - y0) * (e / 2) := by
      rw [← he]
      field_simp
      ring
    rw [hq]
    rcases lt_or_gt_of_ne heq with hlt | hgt
    · have hd : ((y1 : ℝ) - y0) < 0 := sub_neg.mpr (by exact_mod_cast hlt)
      rw [if_neg (by omega)]
      have hiff (a b : ℝ) : y0 + (y1 - y0) * a < y0 + (y1 - y0) * b ↔ b < a := by
        rw [add_lt_add_iff_left, mul_lt_mul_left_of_neg hd]
      exact hcos.of_lt_iff (by rw [hiff]; constructor <;> intro <;> linarith) (by rw [hiff]; constructor <;> intro <;> linarith)
    · have hd : 0 < ((y1 : ℝ) - y0) := sub_pos.mpr (by exact_mod_cast hgt)
      rw [if_pos (by omega)]
      have hiff (a b : ℝ) : y0 + (y1 - y0) * a < y0 + (y1 - y0) * b ↔ a < b := by
        rw [add_lt_add_iff_left, mul_lt_mul_iff_right₀ hd]
      exact hcos.swap (by rw [hiff]; constructor <;> intro <;> linarith) (by rw [hiff]; constructor <;> intro <;> linarith)

theorem Num.compare_compares {r : Num} (h : r.Inner) (q : Rat) : Compares (r.compare q) r.real q := by
  cases r with
  | rat p => exact compares_rat p q
  | sine y0 y1 a k => exact compares_sine h.1 h.2 q

/-! The floor. -/

/-- Halving finds the floor of a value between two integers. -/
theorem Num.floorIn_eq {r : Num} (h : r.Inner) {lo hi : Int} {fuel : Nat} (hlo : lo ≤ r.real) (hhi : r.real < hi + 1)
    (hfuel : hi - lo < 2 ^ fuel) : r.floorIn lo hi fuel = ⌊r.real⌋ := by
  induction fuel generalizing lo hi with
  | zero =>
    have hle : hi ≤ lo := by omega
    have hle : (hi : ℝ) ≤ lo := by exact_mod_cast hle
    exact (Int.floor_eq_iff.mpr ⟨hlo, by linarith⟩).symm
  | succ fuel ih =>
    unfold floorIn
    split
    · rename_i hle
      have hle : (hi : ℝ) ≤ lo := by exact_mod_cast hle
      exact (Int.floor_eq_iff.mpr ⟨hlo, by linarith⟩).symm
    · obtain ⟨hlt, -⟩ := Num.compare_compares h (((lo + hi + 1) / 2 : Int) : Rat)
      rw [Rat.cast_intCast] at hlt
      rw [pow_succ] at hfuel
      dsimp only
      split
      · refine ih hlo ?_ (by omega)
        push_cast
        linarith [hlt.mp ‹_›]
      · exact ih (not_lt.mp (mt hlt.mpr ‹_›)) hhi (by omega)

/-- A sinusoidal value lies between its end values. -/
theorem Num.sine_between (y0 y1 : Int) (a h : Nat) :
    (min y0 y1 : Int) ≤ (Num.sine y0 y1 a h).real ∧ (Num.sine y0 y1 a h).real ≤ (max y0 y1 : Int) := by
  have h1 := Real.neg_one_le_cos (Real.pi * (a / h))
  have h2 := Real.cos_le_one (Real.pi * (a / h))
  simp only [Num.real]
  generalize Real.cos (Real.pi * (a / h)) = c at h1 h2
  push_cast
  rcases le_total (y0 : ℝ) y1 with hle | hle
  · rw [min_eq_left hle, max_eq_right hle]
    constructor <;> nlinarith
  · rw [min_eq_right hle, max_eq_left hle]
    constructor <;> nlinarith

theorem Num.floor_eq {r : Num} (h : r.Inner) : r.floor = ⌊r.real⌋ := by
  cases r with
  | rat q => exact (Rat.floor_cast q).symm
  | sine y0 y1 a k =>
    obtain ⟨hlo, hhi⟩ := Num.sine_between y0 y1 a k
    refine Num.floorIn_eq h hlo (by linarith) ?_
    have hlog := Nat.lt_log2_self (n := (max y0 y1 - min y0 y1).toNat)
    zify at hlog
    omega

/-! Round. -/

/-- A nearest integer, the even one of two (44_spline.md R255). -/
structure RoundsTo (r : ℝ) (n : Int) : Prop where
  nearest : ∀ m : Int, |r - n| ≤ |r - m|
  even : r - ⌊r⌋ = 1 / 2 → Even n

/-- An integer within a half is a nearest one. -/
theorem nearest_of_le {r : ℝ} {n : Int} (h : |r - n| ≤ 1 / 2) (m : Int) : |r - n| ≤ |r - m| := by
  by_cases hm : m = n
  · rw [hm]
  · have hgap : (1 : ℝ) ≤ |(n : ℝ) - m| := by
      have hint : 1 ≤ |n - m| := Int.one_le_abs (by omega)
      exact_mod_cast hint
    have htri : |(n : ℝ) - m| ≤ |r - n| + |r - m| := by
      rw [abs_sub_comm r n]
      exact abs_sub_le _ _ _
    linarith

theorem Num.round_roundsTo {r : Num} (h : r.Inner) : RoundsTo r.real r.round := by
  obtain ⟨hlt, hgt⟩ := Num.compare_compares h ((r.floor : Rat) + 1 / 2)
  have hlo := Int.floor_le r.real
  have hhi := Int.lt_floor_add_one r.real
  unfold Num.round
  rw [Num.floor_eq h] at hlt hgt ⊢
  push_cast at hlt hgt
  dsimp only
  generalize hf : ⌊r.real⌋ = f at *
  cases ho : r.compare ((f : Rat) + 1 / 2) with
  | lt =>
    have hr := hlt.mp ho
    exact ⟨nearest_of_le (abs_le.mpr ⟨by linarith, by linarith⟩), fun h => by rw [hf] at h; linarith⟩
  | gt =>
    have hr := hgt.mp ho
    exact ⟨nearest_of_le (abs_le.mpr ⟨by push_cast; linarith, by push_cast; linarith⟩), fun h => by rw [hf] at h; linarith⟩
  | eq =>
    rw [ho] at hlt hgt
    have hle := not_lt.mp (mt hlt.mpr nofun)
    have hge := not_lt.mp (mt hgt.mpr nofun)
    dsimp only
    split
    · rename_i heven
      exact ⟨nearest_of_le (abs_le.mpr ⟨by linarith, by linarith⟩), fun _ => Int.even_iff.mpr heven⟩
    · rename_i hodd
      exact ⟨nearest_of_le (abs_le.mpr ⟨by push_cast; linarith, by push_cast; linarith⟩),
        fun _ => Int.even_iff.mpr (by omega)⟩

/-- Settles O47: the two kinds of values are rounded to a nearest integer, and sinusoidal ones are compared exactly. -/
theorem roundingIsExact : Obligations.RoundingIsExact := by
  refine ⟨fun q => ?_, fun y0 y1 a h h0 hah => ?_⟩
  · obtain ⟨hnearest, heven⟩ := Num.round_roundsTo (r := .rat q) trivial
    rw [Num.real_rat] at hnearest heven
    refine ⟨fun m => ?_, fun hq => heven ?_⟩
    · have hm := hnearest m
      exact_mod_cast hm
    · have hcast : ((q - q.floor : Rat) : ℝ) = ((1 / 2 : Rat) : ℝ) := congrArg _ hq
      rw [Rat.floor_cast]
      push_cast at hcast
      exact hcast
  · obtain ⟨hnearest, heven⟩ := Num.round_roundsTo (r := .sine y0 y1 a h) ⟨h0, hah⟩
    exact ⟨fun q => compares_sine h0 hah q, hnearest, heven⟩

end Sys2Proof.Machine
end

section
/-! Bounds of predictions: of every method, kept by every output filter (44_spline.md R253..R258). -/

namespace Sys2Proof.Machine

/-! Values between two integers. -/

/-- A value of an interpolation between two integers. -/
structure Num.Within (lo hi : Int) (r : Num) : Prop where
  inner : r.Inner
  low : lo ≤ r.real
  high : r.real ≤ hi

theorem Num.Within.mono {lo hi lo' hi' : Int} {r : Num} (h : r.Within lo hi) (hlo : lo' ≤ lo) (hhi : hi ≤ hi') :
    r.Within lo' hi' := by
  have hlo : (lo' : ℝ) ≤ lo := by exact_mod_cast hlo
  have hhi : (hi : ℝ) ≤ hi' := by exact_mod_cast hhi
  exact ⟨h.inner, hlo.trans h.low, h.high.trans hhi⟩

theorem Num.within_rat {lo hi : Int} {q : Rat} (hlo : (lo : Rat) ≤ q) (hhi : q ≤ hi) : (Num.rat q).Within lo hi :=
  ⟨trivial, by rw [Num.real_rat]; exact_mod_cast hlo, by rw [Num.real_rat]; exact_mod_cast hhi⟩

theorem Num.within_intCast {lo hi n : Int} (hlo : lo ≤ n) (hhi : n ≤ hi) : (Num.rat n).Within lo hi :=
  Num.within_rat (by exact_mod_cast hlo) (by exact_mod_cast hhi)

/-- Rounding does not pass an integer. -/
theorem RoundsTo.between {r : ℝ} {n lo hi : Int} (h : RoundsTo r n) (hlo : lo ≤ r) (hhi : r ≤ hi) : lo ≤ n ∧ n ≤ hi := by
  constructor
  · have hnear := h.nearest lo
    rw [abs_of_nonneg (by linarith : 0 ≤ r - lo)] at hnear
    by_contra hlt
    have hlt : (n : ℝ) ≤ lo - 1 := by exact_mod_cast (by omega : n ≤ lo - 1)
    rw [abs_of_nonneg (by linarith)] at hnear
    linarith
  · have hnear := h.nearest hi
    rw [abs_of_nonpos (by linarith : r - hi ≤ 0)] at hnear
    by_contra hlt
    have hlt : (hi : ℝ) + 1 ≤ n := by exact_mod_cast (by omega : hi + 1 ≤ n)
    rw [abs_of_nonpos (by linarith)] at hnear
    linarith

theorem Num.Within.round {lo hi : Int} {r : Num} (h : r.Within lo hi) : lo ≤ r.round ∧ r.round ≤ hi :=
  (Num.round_roundsTo h.inner).between h.low h.high

/-! Filters. -/

theorem Num.clip_real {r : Num} (h : r.Inner) (lo hi : Rat) :
    (r.clip lo hi).Inner ∧ (r.clip lo hi).real = min (max r.real lo) hi := by
  have hlow : (if r.compare lo = .lt then Num.rat lo else r).Inner
      ∧ (if r.compare lo = .lt then Num.rat lo else r).real = max r.real lo := by
    obtain ⟨hlt, -⟩ := Num.compare_compares h lo
    split
    · exact ⟨trivial, (max_eq_right (hlt.mp ‹_›).le).symm⟩
    · exact ⟨h, (max_eq_left (not_lt.mp (mt hlt.mpr ‹_›))).symm⟩
  unfold Num.clip
  generalize (if r.compare lo = .lt then Num.rat lo else r) = r' at hlow
  obtain ⟨hin, hreal⟩ := hlow
  obtain ⟨-, hgt⟩ := Num.compare_compares hin hi
  rw [← hreal]
  dsimp only
  split
  · exact ⟨trivial, (min_eq_right (hgt.mp ‹_›).le).symm⟩
  · exact ⟨hin, (min_eq_left (not_lt.mp (mt hgt.mpr ‹_›))).symm⟩

theorem Num.clip_within {r : Num} (h : r.Inner) {lo hi : Int} (hle : lo ≤ hi) : (r.clip lo hi).Within lo hi := by
  obtain ⟨hin, hreal⟩ := Num.clip_real h lo hi
  have hle : (lo : ℝ) ≤ hi := by exact_mod_cast hle
  push_cast at hreal
  exact ⟨hin, hreal ▸ le_min (le_max_right _ _) hle, hreal ▸ min_le_right _ _⟩

/-- A clip to bounds inside an interval stays in the interval. -/
theorem Num.Within.clip {r : Num} {lo hi a b : Int} (h : r.Within lo hi) (ha : lo ≤ a ∧ a ≤ hi) (hb : lo ≤ b ∧ b ≤ hi) :
    (r.clip a b).Within lo hi := by
  obtain ⟨hin, hreal⟩ := Num.clip_real h.inner a b
  obtain ⟨ha0, ha1⟩ : (lo : ℝ) ≤ a ∧ (a : ℝ) ≤ hi := by exact_mod_cast ha
  obtain ⟨hb0, hb1⟩ : (lo : ℝ) ≤ b ∧ (b : ℝ) ≤ hi := by exact_mod_cast hb
  push_cast at hreal
  exact ⟨hin, hreal ▸ le_min (h.low.trans (le_max_left _ _)) hb0, hreal ▸ (min_le_left _ _).trans (max_le h.high ha1)⟩

/-- The bounds of the value range, which global_clip clips to. -/
theorem applyFilter_global {v : Nat} (l1 r1 : Nat × Int) (r : Num) :
    applyFilter v l1 r1 r 1 = r.clip (0 : Int) (((v : Int) - 1 : Int)) := by
  simp [applyFilter]

section
variable {n v : Nat} {l1 r1 : Nat × Int} (hl : InGrid n v l1) (hr : InGrid n v r1)
include hl hr

/-- No filter leaves an interval that holds the value range (44_spline.md R253..R256). -/
theorem Num.Within.applyFilter {lo hi : Int} {r : Num} (h : r.Within lo hi) (hlo : lo ≤ 0) (hhi : (v : Int) - 1 ≤ hi)
    (code : Nat) : (applyFilter v l1 r1 r code).Within lo hi := by
  obtain ⟨-, hl0, hl1⟩ := hl
  obtain ⟨-, hr0, hr1⟩ := hr
  match code with
  | 0 => exact h.clip (by omega) (by omega)
  | 1 =>
    rw [applyFilter_global]
    exact h.clip (by omega) (by omega)
  | 2 => exact Num.within_intCast h.round.1 h.round.2
  | _ + 3 => exact h

theorem Num.Within.foldl_applyFilter {lo hi : Int} {r : Num} (h : r.Within lo hi) (hlo : lo ≤ 0) (hhi : (v : Int) - 1 ≤ hi)
    (codes : List Nat) : (codes.foldl (Machine.applyFilter v l1 r1) r).Within lo hi := by
  induction codes generalizing r with
  | nil => exact h
  | cons code codes ih => exact ih (h.applyFilter hl hr hlo hhi code)

/-- Once global_clip was met, the value stays in the value range. -/
theorem foldl_applyFilter_global {lo hi : Int} {r : Num} (h : r.Within lo hi) (hlo : lo ≤ 0) (hhi : (v : Int) - 1 ≤ hi)
    {codes : List Nat} (hglobal : 1 ∈ codes) : (codes.foldl (Machine.applyFilter v l1 r1) r).Within 0 ((v : Int) - 1) := by
  obtain ⟨before, after, rfl⟩ := List.append_of_mem hglobal
  rw [List.foldl_append, List.foldl_cons, applyFilter_global]
  have hbefore := h.foldl_applyFilter hl hr hlo hhi before
  obtain ⟨-, hl0, hl1⟩ := id hl
  exact (Num.clip_within hbefore.inner (by omega)).foldl_applyFilter hl hr le_rfl le_rfl after

end

/-! Methods. -/

/-- A point of the grid has its value in the value range, as a rational. -/
theorem InGrid.value {n v : Nat} {p : Nat × Int} (h : InGrid n v p) : 0 ≤ (p.2 : Rat) ∧ (p.2 : Rat) ≤ (v : Rat) - 1 := by
  obtain ⟨-, h0, h1⟩ := h
  refine ⟨by exact_mod_cast h0, ?_⟩
  have h1 : (p.2 : Rat) + 1 ≤ v := by exact_mod_cast h1
  linarith

/-- t lies in [0, 1] (44_spline.md R243). -/
theorem Around.tParam {x : Nat} {sr : Surroundings} {p q : Nat × Int} (h : Around x sr p q) :
    0 ≤ tParam p q x ∧ tParam p q x ≤ 1 := by
  have hl : (p.1 : Rat) < x := by exact_mod_cast h.left
  have hr : (x : Rat) < q.1 := by exact_mod_cast h.right
  unfold Machine.tParam
  exact ⟨div_nonneg (by linarith) (by linarith), (div_le_one (by linarith)).mpr (by linarith)⟩

theorem linearValue_between {n v x : Nat} {sr : Surroundings} {p q : Nat × Int} (h : Around x sr p q) (hp : InGrid n v p)
    (hq : InGrid n v q) : 0 ≤ linearValue p q x ∧ linearValue p q x ≤ (v : Rat) - 1 := by
  obtain ⟨ht0, ht1⟩ := h.tParam
  obtain ⟨hp0, hp1⟩ := hp.value
  obtain ⟨hq0, hq1⟩ := hq.value
  unfold linearValue
  constructor <;> nlinarith

/-- A mean of values weighted by inverse powers of distances lies in the range of the values (44_spline.md R250). -/
theorem idwValue_between {n v : Nat} (hv : 1 ≤ v) (k x : Nat) {sr : Surroundings}
    (hin : ∀ a, some a ∈ slots sr → InGrid n v a) :
    0 ≤ idwValue k sr x ∧ idwValue k sr x ≤ (v : Rat) - 1 := by
  have hgrid : ∀ q ∈ (slots sr).filterMap id, InGrid n v q := fun q hq => hin q (by simpa using hq)
  have hv : (1 : Rat) ≤ v := by exact_mod_cast hv
  unfold idwValue
  dsimp only
  generalize (slots sr).filterMap id = pts at hgrid
  have hsums : 0 ≤ (pts.map (fun q => (q.2 : Rat) / ((absDist x q.1 : Rat) ^ k))).sum
      ∧ 0 ≤ (pts.map (fun q => 1 / ((absDist x q.1 : Rat) ^ k))).sum
      ∧ (pts.map (fun q => (q.2 : Rat) / ((absDist x q.1 : Rat) ^ k))).sum
        ≤ ((v : Rat) - 1) * (pts.map (fun q => 1 / ((absDist x q.1 : Rat) ^ k))).sum := by
    induction pts with
    | nil => simp
    | cons q pts ih =>
      obtain ⟨hq, hgrid⟩ := List.forall_mem_cons.mp hgrid
      obtain ⟨hq0, hq1⟩ := hq.value
      obtain ⟨h1, h2, h3⟩ := ih hgrid
      have hw : (0 : Rat) ≤ 1 / ((absDist x q.1 : Rat) ^ k) := by positivity
      simp only [List.map_cons, List.sum_cons]
      rw [div_eq_mul_one_div (q.2 : Rat)]
      refine ⟨by positivity, by positivity, ?_⟩
      nlinarith
  obtain ⟨hnum, hden, hle⟩ := hsums
  exact ⟨div_nonneg hnum hden, div_le_of_le_mul₀ hden (by linarith) hle⟩

/-- The slope of a segment of the grid is at most the height of the grid (44_spline.md R248). -/
theorem abs_segSlope_le {n v : Nat} {p q : Nat × Int} (hp : InGrid n v p) (hq : InGrid n v q) (h : p.1 < q.1) :
    |segSlope p q| ≤ (v : Rat) - 1 := by
  obtain ⟨hp0, hp1⟩ := hp.value
  obtain ⟨hq0, hq1⟩ := hq.value
  have hx : (1 : Rat) ≤ (q.1 : Rat) - p.1 := by
    have : (p.1 : Rat) + 1 ≤ q.1 := by exact_mod_cast h
    linarith
  unfold segSlope
  rw [abs_div, abs_of_pos (by linarith : (0 : Rat) < (q.1 : Rat) - p.1)]
  refine div_le_of_le_mul₀ (by linarith) (by linarith) ?_
  rw [abs_le]
  constructor <;> nlinarith

theorem segSlopes_bound {n v x : Nat} {sr : Surroundings} {p q : Nat × Int} (h : Around x sr p q)
    (hin : ∀ a, some a ∈ slots sr → InGrid n v a) : ∀ m ∈ segSlopes sr p q, |m| ≤ (v : Rat) - 1 := by
  have hp := hin p (by simp [slots, h.l1])
  have hq := hin q (by simp [slots, h.r1])
  have hmid := abs_segSlope_le hp hq (h.left.trans h.right)
  intro m hm
  unfold segSlopes at hm
  simp only [List.mem_append, List.mem_singleton] at hm
  rcases hm with (hm | rfl) | hm
  · cases hl2 : sr.l2 with
    | none => simp [hl2] at hm
    | some a =>
      obtain rfl : m = segSlope a p := by simpa [hl2] using hm
      exact abs_segSlope_le (hin a (by simp [slots, hl2])) hp (h.l2 a hl2)
  · exact hmid
  · cases hr2 : sr.r2 with
    | none => simp [hr2] at hm
    | some b =>
      obtain rfl : m = segSlope q b := by simpa [hr2] using hm
      exact abs_segSlope_le hq (hin b (by simp [slots, hr2])) (h.r2 b hr2)

/-- The cubic is a mean of the end values and what the slopes add, at most a quarter of the interval's length times the
steepest slope (44_spline.md R249). -/
theorem abs_hermiteAt_le {t h y0 y1 m0 m1 m : Rat} (ht0 : 0 ≤ t) (ht1 : t ≤ 1) (hh : 0 ≤ h) (hy0 : 0 ≤ y0 ∧ y0 ≤ m)
    (hy1 : 0 ≤ y1 ∧ y1 ≤ m) (hm0 : |m0| ≤ m) (hm1 : |m1| ≤ m) : |hermiteAt t h y0 y1 m0 m1| ≤ m + h * m / 4 := by
  obtain ⟨ha0, ha1⟩ := abs_le.mp hm0
  obtain ⟨hb0, hb1⟩ := abs_le.mp hm1
  have hsplit : hermiteAt t h y0 y1 m0 m1
      = ((1 - t) ^ 2 * (1 + 2 * t) * y0 + t ^ 2 * (3 - 2 * t) * y1) + h * (t * (1 - t) * ((1 - t) * m0 - t * m1)) := by
    unfold hermiteAt
    ring
  have hw0 : 0 ≤ (1 - t) ^ 2 * (1 + 2 * t) := by positivity
  have hw1 : 0 ≤ t ^ 2 * (3 - 2 * t) := mul_nonneg (by positivity) (by linarith)
  have hends : |(1 - t) ^ 2 * (1 + 2 * t) * y0 + t ^ 2 * (3 - 2 * t) * y1| ≤ m := by
    rw [abs_of_nonneg (add_nonneg (mul_nonneg hw0 hy0.1) (mul_nonneg hw1 hy1.1))]
    calc _ ≤ (1 - t) ^ 2 * (1 + 2 * t) * m + t ^ 2 * (3 - 2 * t) * m :=
          add_le_add (mul_le_mul_of_nonneg_left hy0.2 hw0) (mul_le_mul_of_nonneg_left hy1.2 hw1)
      _ = m := by ring
  have hmean : |(1 - t) * m0 - t * m1| ≤ m := abs_le.mpr ⟨by nlinarith, by nlinarith⟩
  have hslopes : |t * (1 - t) * ((1 - t) * m0 - t * m1)| ≤ 1 / 4 * m := by
    have hu0 : 0 ≤ t * (1 - t) := mul_nonneg ht0 (by linarith)
    have hu1 : t * (1 - t) ≤ 1 / 4 := by linarith [sq_nonneg (t - 1 / 2)]
    rw [abs_mul, abs_of_nonneg hu0]
    exact mul_le_mul hu1 hmean (abs_nonneg _) (by norm_num)
  rw [hsplit]
  calc _ ≤ _ := abs_add_le _ _
    _ ≤ m + h * (1 / 4 * m) := by
        rw [abs_mul h, abs_of_nonneg hh]
        exact add_le_add hends (mul_le_mul_of_nonneg_left hslopes hh)
    _ = m + h * m / 4 := by ring

theorem abs_hermiteValue_le {n v x : Nat} {sr : Surroundings} {p q : Nat × Int} (hg : GeometryOk n v) (h : Around x sr p q)
    (hin : ∀ a, some a ∈ slots sr → InGrid n v a) : |hermiteValue false sr p q x| ≤ 2 ^ 27 - 1 := by
  have hp := hin p (by simp [slots, h.l1])
  have hq := hin q (by simp [slots, h.r1])
  obtain ⟨ht0, ht1⟩ := h.tParam
  have hslopes := segSlopes_bound h hin
  have hmean {a b m : Rat} (ha : a ∈ segSlopes sr p q) (hb : b ∈ segSlopes sr p q) (hm : m = (a + b) / 2) :
      |m| ≤ (v : Rat) - 1 := by
    obtain ⟨ha0, ha1⟩ := abs_le.mp (hslopes a ha)
    obtain ⟨hb0, hb1⟩ := abs_le.mp (hslopes b hb)
    exact abs_le.mpr ⟨by linarith, by linarith⟩
  obtain ⟨a, ha, b, hb, hl⟩ := leftSlope_mean sr p q
  obtain ⟨c, hc, d, hd, hr⟩ := rightSlope_mean sr p q
  have hlen : 0 ≤ (q.1 : Rat) - p.1 ∧ (q.1 : Rat) - p.1 ≤ 4095 := by
    obtain ⟨-, hn, -, -⟩ := hg
    have hn : n ≤ 4096 := hn
    have hpx : (p.1 : Rat) < q.1 := by exact_mod_cast h.left.trans h.right
    have hqx : (q.1 : Rat) ≤ 4095 := by
      obtain ⟨hqn, -⟩ := hq
      exact_mod_cast (by omega : q.1 ≤ 4095)
    have hp0 : (0 : Rat) ≤ p.1 := by positivity
    exact ⟨by linarith, by linarith⟩
  have hheight : 0 ≤ (v : Rat) - 1 ∧ (v : Rat) - 1 ≤ 65535 := by
    obtain ⟨-, -, hv, hvmax⟩ := hg
    have hvmax : v ≤ 65536 := hvmax
    have h0 : (2 : Rat) ≤ v := by exact_mod_cast hv
    have h1 : (v : Rat) ≤ 65536 := by exact_mod_cast hvmax
    exact ⟨by linarith, by linarith⟩
  have hbound := abs_hermiteAt_le ht0 ht1 hlen.1 hp.value hq.value (hmean ha hb hl) (hmean hc hd hr)
  refine hbound.trans ?_
  nlinarith

/-! Predictions. -/

/-- Every method gives a value between -(2^27 - 1) and 2^27 - 1 (44_spline.md R258). -/
theorem methodValue_within {n v x : Nat} {cfg : Word} {sr : Surroundings} {p q : Nat × Int} {r : Num} (hg : GeometryOk n v)
    (h : Around x sr p q) (hin : ∀ a, some a ∈ slots sr → InGrid n v a) (hr : methodValue cfg sr p q x = some r) :
    r.Within (-(2 ^ 27 - 1)) (2 ^ 27 - 1) := by
  have hp := hin p (by simp [slots, h.l1])
  have hq := hin q (by simp [slots, h.r1])
  have hv : 2 ≤ v ∧ v ≤ 65536 := hg.2.2
  have hrange {r : Num} (hr : r.Within 0 ((v : Int) - 1)) : r.Within (-(2 ^ 27 - 1)) (2 ^ 27 - 1) :=
    hr.mono (by norm_num) (by omega)
  have hbetween {y : Rat} (hy : 0 ≤ y ∧ y ≤ (v : Rat) - 1) : (Num.rat y).Within 0 ((v : Int) - 1) :=
    Num.within_rat (by simpa using hy.1) (by push_cast; exact hy.2)
  have hvalue {a : Nat × Int} (ha : InGrid n v a) : (Num.rat a.2).Within 0 ((v : Int) - 1) := by
    obtain ⟨-, h0, h1⟩ := ha
    exact Num.within_intCast h0 (by omega)
  obtain ⟨hlow, hhigh⟩ := abs_le.mp (abs_hermiteValue_le hg h hin)
  unfold methodValue at hr
  split at hr
  case h_1 =>
    cases hr
    exact hrange (hvalue hp)
  case h_2 =>
    cases hr
    unfold nearestValue
    split
    · exact hrange (hvalue hp)
    · exact hrange (hvalue hq)
  case h_3 =>
    cases hr
    exact hrange (hbetween (linearValue_between h hp hq))
  case h_4 =>
    cases hr
    have hleft := h.left
    have hright := h.right
    obtain ⟨hlo, hhi⟩ := Num.sine_between p.2 q.2 (x - p.1) (q.1 - p.1)
    have hsine : (sineValue p q x).Within (min p.2 q.2) (max p.2 q.2) := ⟨⟨by omega, by omega⟩, hlo, hhi⟩
    obtain ⟨-, hp0, hp1⟩ := hp
    obtain ⟨-, hq0, hq1⟩ := hq
    exact hrange (hsine.mono (by omega) (by omega))
  case h_5 =>
    cases hr
    rw [hermiteValue_filter]
    exact Num.within_rat (by push_cast; linarith) (by push_cast; linarith)
  case h_6 =>
    split at hr
    · cases hr
      exact hrange (hbetween (idwValue_between (by omega) _ x hin))
    · cases hr
  case h_7 => cases hr

/-- Settles O49: the method's value is bounded, the filters keep the bound, and so does Round. -/
theorem predictionBound : Obligations.PredictionBound := by
  intro spl x hvalid hok hx
  obtain ⟨hg, hm, hb, -⟩ := hok hvalid
  have hv : 2 ≤ spl.v ∧ spl.v ≤ 65536 := hg.2.2
  cases hbone : boneAt spl.bones x with
  | some y =>
    obtain ⟨-, -, -, hrange⟩ := hb
    obtain ⟨h0, h1⟩ := hrange x y hbone
    rw [purePredict_bone hbone]
    exact ⟨abs_lt.mpr ⟨by omega, by omega⟩, fun _ => ⟨h0, h1⟩⟩
  | none =>
    obtain ⟨p, q, h, hin⟩ := hb.around hx hbone
    obtain ⟨r, hr⟩ := methodValue_of_methodOk hm (surroundings spl.bones x) p q x
    have hp := hin p (by simp [slots, h.l1])
    have hq := hin q (by simp [slots, h.r1])
    have hmethod := methodValue_within hg h hin hr
    rw [purePredict_nonbone hbone h.l1 h.r1 hr]
    refine ⟨?_, fun hglobal => ?_⟩
    · obtain ⟨hlo, hhi⟩ := (hmethod.foldl_applyFilter hp hq (by norm_num) (by omega) (filterChain spl.cfg)).round
      exact abs_lt.mpr ⟨by unfold Num.finalInt; omega, by unfold Num.finalInt; omega⟩
    · obtain ⟨hlo, hhi⟩ := (foldl_applyFilter_global hp hq hmethod (by norm_num) (by omega) hglobal).round
      exact ⟨hlo, by unfold Num.finalInt; omega⟩

end Sys2Proof.Machine
end

section
/-! CER.INIT of a decode, and the commands that read a block or fill its nulls (45_cer.md R290, R298, R301, R302, R311). -/

namespace Sys2Proof.Machine

/-! CER.INIT of a decode. -/

theorem exec_cerInit_badMode {s : State} (h : 4 ≤ s.arg0.toNat) :
    exec .cerInit s = .next (raiseError (illegalErr 0x56#8 (.val s.arg0.toNat)) s) :=
  endCommand_of_error (bind_of_error (require_neg (not_lt.mpr h) _) _)

/-- Mode word 1 is a decode with press values from SIN (45_cer.md R298). -/
theorem exec_cerInit_decodeWord {s : State} (harg : s.arg0 = 1#32) :
    exec .cerInit s = endCommand s (beginDecode .sin s) := by
  have hpass : require (zext s.arg0 < 4) (illegalErr 0x56#8 (.val (zext s.arg0))) = .ok () :=
    require_pos (by rw [harg]; decide) _
  show endCommand s _ = _
  rw [bind_of_ok hpass, harg]
  rfl

section
variable {s : State} (harg : s.arg0 = 1#32) (hg : GeometryOk (zext s.cfgN) (zext s.cfgV)) (hm : MethodOk s.cfgMethod)
  (hl : locpolField s.cfgCache ≤ 2)
include harg hg hm hl

theorem exec_cerInit_badFirst (h0 : zext s.cfgV ≤ zext s.arg1) :
    exec .cerInit s = .next (raiseError (domainErr 0x03#8 (.val (zext s.arg1))) s) := by
  rw [exec_cerInit_decodeWord harg]
  exact endCommand_of_error ((bind_of_ok (cerCheckConfig_pass hg hm hl) _).trans
    (bind_of_error (require_neg (not_lt.mpr h0) _) _))

theorem exec_cerInit_badLast (h0 : zext s.arg1 < zext s.cfgV) (h1 : zext s.cfgV ≤ zext s.arg2) :
    exec .cerInit s = .next (raiseError (domainErr 0x03#8 (.val (zext s.arg2))) s) := by
  rw [exec_cerInit_decodeWord harg]
  exact endCommand_of_error ((bind_of_ok (cerCheckConfig_pass hg hm hl) _).trans
    ((bind_of_ok (require_pos h0 _) _).trans (bind_of_error (require_neg (not_lt.mpr h1) _) _)))

end

/-- Block initialisation is a new block with rankings and cached predictions. -/
theorem blockInit_changes (mode : Mode) (psrc : PressSrc) (n v : Nat) (cfg : Word) (plain : List (Option Int)) (v0 v1 : Int)
    (s : State) : ∃ (vc : List VcEntry) (rank : List RankEntry), blockInit mode psrc n v cfg plain v0 v1 s
      = { s with
          spl := { freshSpline n v cfg s.cfgCache v0 v1 with vc := vc }
          cat := blockCatalogue n v v0 v1
          cer := { blockCer mode psrc n v cfg plain s with rank := rank } } := pushCells_eq _ _

/-- Settles O52: the mode word, then each endpoint, is refused by its own check; else the block is the one that block
initialisation of a decode leaves. -/
theorem cerInitDecodes : Obligations.CerInitDecodes := by
  refine fun s => ⟨exec_cerInit_badMode, fun hword hg hm hl => ?_⟩
  have harg : s.arg0 = 1#32 := BitVec.eq_of_toNat_eq hword
  refine ⟨exec_cerInit_badFirst harg hg hm hl, exec_cerInit_badLast harg hg hm hl, fun h0 h1 => ?_⟩
  obtain ⟨-, hinv, hactive⟩ := blockInit_decode_begun (psrc := .sin) (n := zext s.cfgN) (v := zext s.cfgV)
    (v0 := zext s.arg1) (v1 := zext s.arg2) (s := s) hg hm h0 h1
  obtain ⟨-, hactiveOk, -⟩ := (blockInv_iff _).mp hinv
  have hact := hactiveOk hactive
  have hexec := exec_cerInit_decode harg hg hm hl h0 h1
  obtain ⟨vc, rank, heq⟩ := blockInit_changes .decode .sin (zext s.cfgN) (zext s.cfgV) s.cfgMethod
    (decodePlain (zext s.cfgN) (zext s.arg1) (zext s.arg2)) (zext s.arg1) (zext s.arg2) s
  rw [heq] at hact hexec
  exact ⟨_, hexec, rfl, rfl, rfl, rfl, rfl, rfl, rfl, rfl, rfl, rfl, hact⟩

/-! Reading the block. -/

theorem exec_cerPress_done {s : State} (h : Pushable s (s.cer.press.map Int.ofNat)) :
    exec .cerPress s = .next (complete { s with
      sout := s.sout ++ s.cer.press.map Int.ofNat
      res0 := BitVec.ofNat 32 s.cer.press.length }) := endCommand_of_ok (bind_of_ok h.seqPushAll_eq _)

theorem exec_cerPlain_done {s : State} (h : Pushable s (s.cer.plain.map plainElement)) :
    exec .cerPlain s = .next (complete { s with
      sout := s.sout ++ s.cer.plain.map plainElement
      res0 := BitVec.ofNat 32 (s.cer.plain.countP Option.isSome) }) := by
  rw [List.countP_eq_length_filter]
  exact endCommand_of_ok (bind_of_ok h.seqPushAll_eq _)

/-! Filling its nulls. -/

/-- On a sound Spline with right cached predictions, every null from column x on becomes the clamped prediction of the
current bones, and only the value cache changes (45_cer.md R301). -/
theorem fillPlain_pure (v : Nat) {plain : List (Option Int)} {x : Nat} {spl : Spline} (hvalid : spl.valid = true)
    (hok : SplineOk spl) (hc : CacheValuesOk spl) (hx : x + plain.length ≤ spl.n) :
    ∃ vc, fillPlain v x plain spl =
      (plain.mapIdx (fun i p => some (p.getD (min (max (purePredict spl (x + i)) 0) ((v : Int) - 1)))),
        { spl with vc := vc }, plain.countP Option.isNone) := by
  induction plain generalizing x spl with
  | nil => exact ⟨spl.vc, rfl⟩
  | cons p plain ih =>
    rw [List.length_cons] at hx
    cases p with
    | some y =>
      obtain ⟨vc, hrest⟩ := ih (x := x + 1) hvalid hok hc (by omega)
      refine ⟨vc, ?_⟩
      simp only [fillPlain, hrest, List.mapIdx_cons, Nat.add_assoc, Nat.add_comm 1]
      rfl
    | none =>
      obtain ⟨vc, hvc, hok', hc'⟩ := predict_keeps x hok hc
      obtain ⟨vc', hrest⟩ := ih (x := x + 1) (spl := { spl with vc := vc }) hvalid hok' hc' (by simp only; omega)
      have hpure (y : Nat) : purePredict { spl with vc := vc } y = purePredict spl y :=
        purePredict_congr rfl rfl rfl rfl y
      refine ⟨vc', ?_⟩
      simp only [fillPlain, predict_fst hvalid hok hc (by omega : x < spl.n), hvc, hrest, hpure, List.mapIdx_cons,
        List.countP_cons, Option.isNone_none, if_true, Nat.add_assoc, Nat.add_comm 1, Nat.add_zero, Option.getD_none]

/-- Settles O60: the pushes fit, and CER.FILL predicts from the current bones. -/
theorem cerReadAndFill : Obligations.CerReadAndFill := by
  refine fun s => ⟨exec_cerPress_done, exec_cerPlain_done, fun hphase hvalid hok hc hlen => ?_⟩
  obtain ⟨vc, hfill⟩ := fillPlain_pure s.cer.v (plain := s.cer.plain) (x := 0) hvalid hok hc (by omega)
  simp only [Nat.zero_add] at hfill
  refine ⟨vc, endCommand_of_ok ((bind_of_ok (require_pos hphase _) _).trans ?_)⟩
  rw [hfill]
  rfl

end Sys2Proof.Machine
end

section
/-! CER.RUN and CER.BLOCK in encode (45_cer.md R285, R293, R295, R299, R300). -/

namespace Sys2Proof.Machine

/-! CER.RUN. -/

theorem whenActive_pass {s : State} (runs : State → RunEnd) (h : s.cer.phase = .active) : whenActive runs s = runs s := by
  simp only [whenActive, require_pos h]

theorem exec_cerRun_done {s t : State} {final : Bool} (ha : s.cer.phase = .active) (h : run s = .done t final) :
    exec .cerRun s = .next (complete { t with
      res0 := BitVec.ofNat 32 t.cer.s, res1 := if final then 1#32 else 0#32 }) := by
  show endRun s _ = _
  rw [whenActive_pass run ha, h]
  rfl

theorem exec_cerRun_raised {s t : State} {e : Err} (ha : s.cer.phase = .active) (h : run s = .raised e t) :
    exec .cerRun s = .next (raiseError e (failedBlock s t)) := by
  show endRun s _ = _
  rw [whenActive_pass run ha, h]
  rfl

/-- The press data against the counters, between the runs of an ACTIVE block (45_cer.md R295). -/
theorem BlockInv.active_counts {s : State} (h : BlockInv s) (ha : s.cer.phase = .active) :
    s.cer.press.length = s.cer.runIndex ∧ s.cer.press.sum = s.cer.elims ∧ s.cer.runIndex = s.cer.hits := by
  obtain ⟨-, hactive, -⟩ := (blockInv_iff s).mp h
  obtain ⟨-, -, -, -, -, -, -, -, ⟨hlen, hsum, -, -⟩, hhits⟩ := hactive ha
  exact ⟨hlen, hsum, hhits⟩

theorem BlockInv.doneOk {s : State} (h : BlockInv s) (hd : s.cer.phase = .done) : DoneOk s.cer := by
  obtain ⟨-, -, hdone⟩ := (blockInv_iff s).mp h
  exact hdone hd

/-- Settles O53: the invariant before and after the run tells the counters, since the run emits its count. -/
theorem encodingRunCompletes : Obligations.EncodingRunCompletes := by
  intro s hinv ha hm
  obtain ⟨t, final, hrun, hkeep, hend⟩ := run_encoded hinv ha hm
  obtain ⟨hpress, -⟩ := run_mirrored hinv ha hm hrun
  obtain ⟨hinv', hact'⟩ : RunEnd.Ok (.done t final) := hrun ▸ run_ok hinv ha
  obtain ⟨hlen, hsum, hhits⟩ := hinv.active_counts ha
  have hlen' : t.cer.press.length = s.cer.runIndex + 1 := by rw [hpress, List.length_append, hlen]; rfl
  have hsum' : t.cer.press.sum = s.cer.elims + t.cer.s := by rw [hpress, List.sum_append, hsum, List.sum_singleton]
  obtain ⟨hcounts, hphase⟩ : (t.cer.elims = s.cer.elims + t.cer.s ∧ t.cer.runIndex = s.cer.runIndex + 1)
      ∧ if final then t.cer.phase = .done ∧ t.cer.rank = [] ∧ t.cer.hits = s.cer.hits
        else t.cer.phase = .active ∧ t.cer.hits = s.cer.hits + 1 := by
    cases final with
    | true =>
      obtain ⟨hrank, hl, hr, hs, -⟩ := hinv'.doneOk hend
      exact ⟨⟨by omega, by omega⟩, hend, hrank, by omega⟩
    | false =>
      obtain ⟨hl, hs, hh⟩ := hinv'.active_counts (hact' rfl)
      exact ⟨⟨by omega, by omega⟩, hact' rfl, by omega⟩
  refine ⟨_, final, exec_cerRun_done ha hrun, ?_, rfl, rfl, rfl, hpress, hcounts.1, hcounts.2, hkeep.plain, hphase, ?_⟩
  all_goals rw [← hkeep.frame]
  · rfl
  · exact ⟨rfl, rfl, rfl, rfl⟩

/-! CER.BLOCK. -/

theorem hitRun_not_final (e : RankEntry) (s t : State) : hitRun e s ≠ .done t true := by
  have hend (u : State) : hitEnd e u ≠ .done t true := by
    unfold hitEnd
    split <;> exact nofun
  obtain ⟨-, ⟨err, he⟩ | he⟩ | ⟨-, he⟩ := hitRun_cases e s <;> rw [he]
  · exact nofun
  · exact hend _
  · exact hend _

/-- A run that was the final one ended at empty rankings, in a state of the loop. -/
theorem LoopInv.runLoop_final_of_done {left : Nat} {p : Option Nat} {s t : State} (h : LoopInv p s)
    (hrun : Machine.runLoop left p s = .done t true) :
    ∃ q u, LoopInv q u ∧ u.cer.rank = [] ∧ Machine.finalRun q u = .done t true := by
  induction left using Nat.strong_induction_on generalizing p s with
  | _ left ih =>
    have hstep := runLoop_step left p s
    generalize Machine.runLoop left p s = r at hstep hrun
    cases hstep with
    | final hrank => exact ⟨p, s, h, hrank, hrun⟩
    | @hit c _ _ u hrank hd => exact absurd hrun (hitRun_not_final c u t)
    | again hleft hrank hd hel ha =>
      obtain ⟨c, hinv, hcrit⟩ := ((h.popped hrank).decideHit hd).eliminate (decideHit_unread hd h.unread) hel
        (decideHit_miss hd)
      exact ih _ (by omega) (hinv.afterElim hcrit ha) hrun
    | _ => cases hrun

/-- The final run changes nothing of the catalogue and the geometry. -/
theorem finalRun_same {p : Option Nat} {s t : State} (h : finalRun p s = .done t true) :
    t.cat = s.cat ∧ t.cer.n = s.cer.n := by
  unfold finalRun at h
  cases hm : s.cer.mode with
  | encode =>
    obtain ⟨e, he⟩ | he := emitPress_cases s <;> simp only [hm, he] at h <;> cases h
    exact ⟨rfl, rfl⟩
  | decode =>
    simp only [hm] at h
    split at h
    · cases h
    · rename_i v u hp
      obtain ⟨-, hcat, hcer⟩ := pressOf_same hp
      split at h <;> cases h
      exact ⟨hcat, by rw [countRun_cer, hcer]⟩

/-- The final run leaves every column resolved (45_cer.md R285). -/
theorem run_resolves {s t : State} (h : BlockInv s) (ha : s.cer.phase = .active) (hrun : run s = .done t true) :
    ∀ x < t.cer.n, (columnAt t.cat x).rsv = true := by
  obtain ⟨q, u, hu, hrank, hfinal⟩ := (loopInv_of_active h ha).runLoop_final_of_done hrun
  obtain ⟨hcat, hn⟩ := finalRun_same hfinal
  have hshape := hu.inRun.shape
  intro x hx
  rw [hcat]
  exact all_resolved_of_no_rank hshape hrank hu.ranks x (by rw [hshape.cat.1, hshape.catN, ← hn]; exact hx)

theorem runUntilFinal_resolves {left : Nat} {s t : State} (h : BlockInv s) (ha : s.cer.phase = .active)
    (hrun : runUntilFinal left s = .done t true) : ∀ x < t.cer.n, (columnAt t.cat x).rsv = true := by
  induction left using Nat.strong_induction_on generalizing s with
  | _ left ih =>
    obtain heq | ⟨u, left', rfl, hu, heq⟩ := runUntilFinal_cases left s
    · exact run_resolves h ha (heq.symm.trans hrun)
    · obtain ⟨hinv, hact⟩ : RunEnd.Ok (.done u false) := hu ▸ run_ok h ha
      exact ih left' (by omega) hinv (hact rfl) (heq.symm.trans hrun)

/-- Settles O54: the runs come to the final one, which leaves the laws of a block that is DONE. -/
theorem encodingBlockCompletes : Obligations.EncodingBlockCompletes := by
  intro s hinv ha hm
  obtain ⟨t, hrun, hkeep, hphase, hdone⟩ := runBlock_encoded hinv ha hm
  obtain ⟨hbones, ks, hpress, -⟩ := runUntilFinal_mirrored hinv ha hm hrun
  have hresolved := runUntilFinal_resolves hinv ha hrun
  obtain ⟨hn, -, hv, -⟩ := (loopInv_of_active hinv ha).inRun.shape.geometry
  have hn' : t.cer.n = s.cer.n := by rw [← hkeep.cer]
  have hv' : t.cer.v = s.cer.v := by rw [← hkeep.cer]
  obtain ⟨hrank, hlen, hruns, hsum, hhits, helims, -, -⟩ := hdone
  refine ⟨_, exec_cerBlock_done ha hrun, ?_, rfl, rfl, hphase, hrank, hkeep.plain, ⟨ks, hpress.symm⟩, hsum,
    hlen.trans hruns, hhits, hn', ?_, fun x hx => ⟨hresolved x hx, congrArg (boneAt · x) hbones⟩, ?_⟩
  · rw [← hkeep.frame]
    rfl
  · show t.cer.elims ≤ (t.cer.n - 2) * (t.cer.v - 1)
    rw [hn', hv'] at helims ⊢
    zify [hn, (by dsimp only at hv; omega : 1 ≤ s.cer.v)]
    exact helims
  · rw [← hkeep.frame]
    exact ⟨rfl, rfl, rfl, rfl⟩

end Sys2Proof.Machine
end

section
/-! CER.RUN in decode: the press value that a run reads, the hit of press value 0, and the run that outlasts its rankings
(45_cer.md R285, R287, R296). -/

namespace Sys2Proof.Machine

/-! Reading the press value. -/

theorem nextPress_sin {s : State} {v : Nat} {q : List Int} (hsrc : s.cer.psrc = .sin) (hq : s.sin = (v : Int) :: q) :
    nextPress s = .ok (v, tookPress v { s with sin := q }) := by
  have hnn : require ((0 : Int) ≤ v) (parseErr 0x17#8 (.val v)) = .ok () := require_pos (by omega) _
  simp only [nextPress, nextPressSin, hsrc, hq, seqPop]
  exact bind_of_ok hnn _

theorem nextPress_sin_empty {s : State} (hsrc : s.cer.psrc = .sin) (hq : s.sin = []) :
    nextPress s = .error (parseErr 0x16#8 (.val s.cer.runIndex)) := by
  simp only [nextPress, nextPressSin, hsrc, hq, seqPop]

theorem nextPress_sin_negative {s : State} {p : Int} {q : List Int} (hsrc : s.cer.psrc = .sin) (hq : s.sin = p :: q)
    (hp : p < 0) : nextPress s = .error (parseErr 0x17#8 (.val p)) := by
  simp only [nextPress, nextPressSin, hsrc, hq, seqPop]
  exact bind_of_error (require_neg (not_le.mpr hp) _) _

theorem codecOfId_id (c : Codec) : codecOfId c.id = some c := by
  cases c <;> rfl

theorem nextPress_bin_empty {s : State} {c : Codec} (hsrc : s.cer.psrc = .bin)
    (hid : rcidField s.cer.cfgCodec = c.id) (hbound : isIota c = true → 3 ≤ zext s.cer.cfgIotaMax) (hb : s.bin = []) :
    nextPress s = .error (parseErr 0x16#8 (.val s.cer.runIndex)) := by
  simp only [nextPress, nextPressBin, hsrc, hid, codecOfId_id, requireBound_pass hbound, hb, decCode_nil, bind,
    Except.bind, stopErr]

theorem nextPress_bin {s : State} {c : Codec} {k : Nat} {rest : Bits} (hsrc : s.cer.psrc = .bin)
    (hid : rcidField s.cer.cfgCodec = c.id) (hword : HasCodeword c (zext s.cer.cfgIotaMax) .unsigned k)
    (hb : s.bin = codeword c (zext s.cer.cfgIotaMax) .unsigned k ++ rest) :
    nextPress s = .ok (k, tookPress k { s with bin := rest }) := by
  have hread : decCode c (zext s.cer.cfgIotaMax) s.bin = .ok ((adaptIn .unsigned c k).toNat, rest) :=
    hb ▸ hword.reads rest
  have hvalue : (adaptOut1 c (adaptIn .unsigned c k).toNat).toNat = k := by
    rw [show adaptOut1 c _ = (k : Int) from hword.adaptOut_eq, Int.toNat_natCast]
  simp only [nextPress, nextPressBin, hsrc, hid, codecOfId_id, requireBound_pass hword.bound, hread, hvalue, bind,
    Except.bind, pure, Except.pure]

/-! The loop in decode, by the press value. -/

section
variable {left : Nat} {p : Option Nat} {s : State} (hm : s.cer.mode = .decode)
include hm

theorem decideHit_decode {v : Nat} {t : State} (hp : pressOf p s = .ok (v, t)) (c : RankEntry) :
    decideHit p c s = .ok (v == t.cer.s, some v, t) := by
  simp only [decideHit, hm, hp]

theorem decideHit_decode_error {e : Err} (hp : pressOf p s = .error e) (c : RankEntry) : decideHit p c s = .error e := by
  simp only [decideHit, hm, hp]

theorem hitRun_decode {e : RankEntry} {u : State} (h : hitCell e.x e.y s = .ok u) :
    hitRun e s = .done (countRun u) false := by
  simp only [hitRun, hm, h]

theorem finalRun_decode {v : Nat} {t : State} (hp : pressOf p s = .ok (v, t)) :
    finalRun p s = if v = t.cer.s then .done (countRun { t with cer := { t.cer with phase := .done } }) true
      else .raised (parseErr 0x19#8 (.val t.cer.s)) t := by
  simp only [finalRun, hm, hp]

theorem finalRun_decode_error {e : Err} (hp : pressOf p s = .error e) : finalRun p s = .raised e s := by
  simp only [finalRun, hm, hp]

/-- A press value that cannot be read, whatever the rankings, is missed at the first pop or at empty rankings. -/
theorem runLoop_unread {e : Err} (h : ∀ rest, pressOf p (popped rest s) = .error e) :
    runLoop left p s = .raised e (popped s.cer.rank.tail s) := by
  cases hr : s.cer.rank with
  | nil =>
    have hself : popped [] s = s := by rw [← hr]; rfl
    have hfinal := finalRun_decode_error hm (hself ▸ h [])
    rw [runLoop_final hr, hfinal, List.tail_nil, hself]
  | cons c rest =>
    have hdec := decideHit_decode_error (s := popped rest s) hm (h rest) c
    rw [runLoop.eq_def]
    simp only [hr, hdec, List.tail_cons]

/-- The press value may be read before the first pop: the run is the same (45_cer.md R285). -/
theorem runLoop_read {v : Nat} {q : List Int} (hsrc : s.cer.psrc = .sin) (hq : s.sin = (v : Int) :: q) :
    runLoop left none s = runLoop left (some v) (tookPress v { s with sin := q }) := by
  generalize ht : tookPress v { s with sin := q } = t
  have hrank : t.cer.rank = s.cer.rank := by rw [← ht]; rfl
  have hmode : t.cer.mode = .decode := by rw [← ht]; exact hm
  cases hr : s.cer.rank with
  | nil =>
    have hfinal := finalRun_decode (p := none) hm (nextPress_sin hsrc hq)
    rw [runLoop_final hr, runLoop_final (hrank.trans hr), hfinal, finalRun_decode (p := some v) hmode rfl, ht]
  | cons c rest =>
    have hpop : tookPress v { popped rest s with sin := q } = popped rest t := by rw [← ht]; rfl
    have hdec := decideHit_decode (p := none) (s := popped rest s) hm (nextPress_sin hsrc hq) c
    have hdec' := decideHit_decode (p := some v) (s := popped rest t) hmode rfl c
    rw [hpop] at hdec
    generalize (v == (popped rest t).cer.s) = hit at hdec hdec'
    rw [runLoop.eq_def left none, runLoop.eq_def left (some v)]
    cases hit <;> simp only [hr, hrank, hdec, hdec']

end

theorem LoopInv.read {s : State} (h : LoopInv none s) (hm : s.cer.mode = .decode) (v : Nat) (q : List Int) :
    LoopInv (some v) (tookPress v { s with sin := q }) where
  inRun := h.inRun.tookPress v s.bin q
  ranks := h.ranks
  two := h.two
  unread := fun he => absurd (hm.symm.trans he) nofun

/-! Resolving a column. -/

theorem Frontier.isUnknown {cat : Catalogue} {x : Nat} {y : Int} (h : Frontier cat x y) (hok : CatOk cat) :
    isUnknown (columnAt cat x) y = true := by
  obtain ⟨⟨-, hr⟩, hy⟩ := h
  obtain ⟨-, hgap, -⟩ := columnAt_ok hok (lt_length_of_unresolved hr)
  simp only [Machine.isUnknown, decide_eq_true_eq]
  omega

/-- An unresolved column can be resolved to any of its UNKNOWN cells (45_cer.md R287, R289). -/
theorem Shape.resolveCell_unknown {s : State} {x : Nat} {y : Int} (h : Shape s) (hr : (columnAt s.cat x).rsv = false)
    (hy : isUnknown (columnAt s.cat x) y = true) :
    resolveCell x y s = .ok { s with
      spl := installBone s.spl x y
      cat := setColumn s.cat x (resolvedColumn y)
      cer := { s.cer with plain := s.cer.plain.set x (some y) } } := by
  have hx := lt_length_of_unresolved hr
  have hxn : x < s.cer.n := by rw [← h.catN, ← h.cat.1]; exact hx
  have hbone : boneAt s.spl.bones x = none := by
    obtain ⟨-, hsam⟩ := (samplesOk_iff s).mp h.samples
    have hsam := hsam x hxn
    simp only [SampleOk, hr, Bool.false_eq_true, if_false] at hsam
    obtain ⟨hbone, -⟩ := hsam
    exact hbone
  have hlt : y < s.spl.v := by
    obtain ⟨-, -, hhi, -⟩ := columnAt_ok h.cat hx
    simp only [isUnknown, decide_eq_true_eq] at hy
    rw [h.splV, ← h.catV]
    omega
  simp only [resolveCell, setBone_of_null (by rwa [h.splN]) hlt hbone, eliminateColumn_of_unknown hr hy]

/-- Once the least entry was popped, the other cell of its column is the only one left of the column. -/
theorem PoppedInv.rankRemove_eq {p : Option Nat} {e : RankEntry} {s : State} (h : PoppedInv p e s) :
    rankRemove e.x (otherFrontier (columnAt s.cat e.x) e.y) s.cer.rank = s.cer.rank.filter (fun f => f.x ≠ e.x) := by
  have hother := frontier_column h.frontier h.two h.inRun.shape.cat
  refine List.filter_congr fun f hf => ?_
  obtain ⟨hfront, hne⟩ := (h.ranks.cells f.x f.y).mp ⟨f, hf, rfl, rfl⟩
  by_cases hx : f.x = e.x
  · rw [hx] at hfront
    obtain ⟨-, hcells⟩ := hother f.y
    have hy := (hcells.mp hfront).resolve_left fun hy => hne ⟨hx, hy⟩
    simp [hx, hy]
  · simp [hx]

/-- The state that Hit leaves: the column is resolved to the popped cell and leaves the rankings (45_cer.md R287). -/
theorem PoppedInv.hitCell_eq {p : Option Nat} {e : RankEntry} {s : State} (h : PoppedInv p e s) :
    hitCell e.x e.y s = .ok { s with
      spl := installBone s.spl e.x e.y
      cat := setColumn s.cat e.x (resolvedColumn e.y)
      cer := { s.cer with
        plain := s.cer.plain.set e.x (some e.y)
        rank := s.cer.rank.filter (fun f => f.x ≠ e.x)
        hits := s.cer.hits + 1 } } := by
  have hshape := h.inRun.shape
  obtain ⟨hother, -⟩ := frontier_column h.frontier h.two hshape.cat 0
  have hdrop : Shape (dropCell e.x (otherFrontier (columnAt s.cat e.x) e.y) s) :=
    hshape.of_same (.refl _) rfl ⟨rfl, rfl, rfl, rfl, rfl⟩
  obtain ⟨⟨-, hr⟩, -⟩ := h.frontier
  have hres := hdrop.resolveCell_unknown hr (h.frontier.isUnknown hshape.cat)
  rw [← h.rankRemove_eq]
  simp only [hitCell, if_neg hother, hres]
  rfl

/-- With press value 0 a run hits at its first pop. -/
theorem run_hits {s : State} {e : RankEntry} {ranks : List RankEntry} {q : List Int} (h : BlockInv s)
    (ha : s.cer.phase = .active) (hm : s.cer.mode = .decode) (hsrc : s.cer.psrc = .sin) (hq : s.sin = 0 :: q)
    (hr : s.cer.rank = e :: ranks) :
    run s = .done { s with
      sin := q
      spl := installBone s.spl e.x e.y
      cat := setColumn s.cat e.x (resolvedColumn e.y)
      cer := { s.cer with
        plain := s.cer.plain.set e.x (some e.y)
        press := s.cer.press ++ [0]
        rank := ranks.filter (fun f => f.x ≠ e.x)
        s := 0
        runIndex := s.cer.runIndex + 1
        hits := s.cer.hits + 1 } } false := by
  have hloop := (loopInv_of_active h ha).read hm 0 q
  have hread := runLoop_read (left := safetyBound s.cer) (v := 0) (s := { s with cer := { s.cer with s := 0 } }) hm hsrc hq
  generalize hu : tookPress 0 { s with sin := q, cer := { s.cer with s := 0 } } = u at hloop hread
  have hrank : u.cer.rank = e :: ranks := by rw [← hu]; exact hr
  have hmode : u.cer.mode = .decode := by rw [← hu]; exact hm
  have hs : u.cer.s = 0 := by rw [← hu]; rfl
  have hdec := decideHit_decode (p := some 0) (s := popped ranks u) hmode rfl e
  rw [popped_cer, hs, beq_self_eq_true] at hdec
  have hhit := hitRun_decode (s := popped ranks u) hmode (hloop.popped hrank).hitCell_eq
  rw [run, hread, runLoop_hit hrank hdec, hhit, ← hu]
  rfl

/-! Outlasting the rankings. -/

/-- The eliminations between two states of a run: each is counted, and one fewer remains; the press data stays. -/
structure Outlasts (s t : State) : Prop where
  mode : t.cer.mode = s.cer.mode
  press : t.cer.press = s.cer.press
  counts : s.cer.s ≤ t.cer.s
  elims : t.cer.elims + s.cer.s = s.cer.elims + t.cer.s
  total : (t.cer.s : Int) + remainingElims t.cat = s.cer.s + remainingElims s.cat

theorem Outlasts.refl (s : State) : Outlasts s s := ⟨rfl, rfl, le_rfl, rfl, rfl⟩

theorem Outlasts.trans {s t u : State} (h : Outlasts s t) (k : Outlasts t u) : Outlasts s u := by
  obtain ⟨hm, hp, hc, he, ht⟩ := h
  obtain ⟨km, kp, kc, ke, kt⟩ := k
  exact ⟨km.trans hm, kp.trans hp, hc.trans kc, by omega, kt.trans ht⟩

theorem absorbColumn_of_resolveCell {x : Nat} {s t : State}
    (h : resolveCell x ((columnAt s.cat x).lo + 1) (dropCell x ((columnAt s.cat x).lo + 1) s) = .ok t) :
    absorbColumn x s = .ok { t with cer := { t.cer with absorbs := t.cer.absorbs + 1 } } := by
  simp only [absorbColumn, h]

/-- Absorb resolves a column that allowed no more eliminations. -/
theorem ElimInv.absorbColumn_outlasts {p : Option Nat} {x : Nat} {c : Column} {low : Bool} {s : State}
    (h : ElimInv p x c low s) (h1 : unknownCount c = 1) : ∃ u, absorbColumn x s = .ok u ∧ Outlasts s u := by
  have hshape := h.inRun.shape
  have hr : (columnAt s.cat x).rsv = false := h.column ▸ h.unresolved
  have hunk : isUnknown (columnAt s.cat x) ((columnAt s.cat x).lo + 1) = true :=
    Frontier.isUnknown ⟨⟨hshape.cat.1 ▸ h.inside, hr⟩, .inl rfl⟩ hshape.cat
  have hdrop : Shape (dropCell x ((columnAt s.cat x).lo + 1) s) :=
    hshape.of_same (.refl _) rfl ⟨rfl, rfl, rfl, rfl, rfl⟩
  have hres := hdrop.resolveCell_unknown hr hunk
  obtain ⟨-, helims⟩ := counts_resolved h.inside hr ((columnAt s.cat x).lo + 1)
  refine ⟨_, absorbColumn_of_resolveCell hres, rfl, rfl, le_rfl, rfl, ?_⟩
  rw [h.column] at helims
  simp only [dropCell_cat, dropCell_cer, h.column]
  omega

theorem ElimInv.afterElim_outlasts {p : Option Nat} {x : Nat} {c : Column} {crit low : Bool} {s : State}
    (h : ElimInv p x c low s) (hcrit : crit = (unknownCount c == 1)) :
    ∃ u, Machine.afterElim crit low x s = .ok u ∧ Outlasts s u := by
  cases crit with
  | true => exact h.absorbColumn_outlasts (by simpa using hcrit.symm)
  | false => exact ⟨_, rfl, rfl, rfl, le_rfl, rfl, rfl⟩

/-- A run whose press value is beyond the eliminations that remain makes them all and fails at empty rankings
(45_cer.md R285, R303). -/
theorem LoopInv.runLoop_outlasts {left v : Nat} {s : State} (h : LoopInv (some v) s) (hm : s.cer.mode = .decode)
    (hleft : remainingElims s.cat < left) (hv : s.cer.s + remainingElims s.cat < v) :
    ∃ t, Machine.runLoop left (some v) s = .raised (parseErr 0x19#8 (.val t.cer.s)) t ∧ Outlasts s t
      ∧ t.cer.rank = [] ∧ remainingElims t.cat = 0 := by
  have hpos := remainingElims_nonneg h.inRun.shape.cat
  have hmiss : v ≠ s.cer.s := by omega
  induction left generalizing s with
  | zero => omega
  | succ left ih =>
    cases hr : s.cer.rank with
    | nil =>
      obtain ⟨-, hnone⟩ := counts_of_all_resolved (all_resolved_of_no_rank h.inRun.shape hr h.ranks)
      refine ⟨s, ?_, .refl s, hr, hnone⟩
      rw [runLoop_final hr, finalRun_decode (p := some v) hm rfl, if_neg hmiss]
    | cons e rest =>
      have hpop := h.popped hr
      have hdec := decideHit_decode (p := some v) (s := Machine.popped rest s) hm rfl e
      rw [popped_cer, beq_eq_false_iff_ne.mpr hmiss] at hdec
      obtain ⟨cat, crit, hel, -, hfewer⟩ := hpop.eliminate_encodes
      obtain ⟨c, hc, hcrit⟩ := hpop.eliminate (decideHit_unread hdec h.unread) hel (decideHit_miss hdec)
      obtain ⟨u, hu, hkeep⟩ := hc.afterElim_outlasts hcrit
      have hstep : Outlasts s (countElim cat (Machine.popped rest s)) := by
        refine ⟨rfl, rfl, ?_, ?_, ?_⟩
        all_goals
          simp only [countElim_cer, countElim_cat, popped_cer, popped_cat] at hfewer ⊢
          omega
      have hloop := hc.afterElim hcrit hu
      have hall := hstep.trans hkeep
      have hpos' := remainingElims_nonneg hloop.inRun.shape.cat
      have hcounts : s.cer.s + 1 ≤ u.cer.s := hkeep.counts
      have htotal := hall.total
      obtain ⟨t, hrun, hrest, hrank, hnone⟩ :=
        ih hloop (hall.mode.trans hm) (by omega) (by omega) hpos' (by omega)
      exact ⟨t, (runLoop_again hr hdec hel hu).trans hrun, hall.trans hrest, hrank, hnone⟩

/-- SafetyBound is above the eliminations that a block allows (45_cer.md R293, R294). -/
theorem InRun.remainingElims_lt {p : Option Nat} {s : State} (h : InRun p s) :
    remainingElims s.cat < safetyBound s.cer := by
  obtain ⟨hn, -, hv, -⟩ := h.shape.geometry
  have hbound := h.columns.bound
  unfold safetyBound
  push_cast
  nlinarith

theorem run_outlasts {s : State} {v : Nat} {q : List Int} (h : BlockInv s) (ha : s.cer.phase = .active)
    (hm : s.cer.mode = .decode) (hsrc : s.cer.psrc = .sin) (hq : s.sin = (v : Int) :: q) (hv : remainingElims s.cat < v) :
    ∃ t, run s = .raised (parseErr 0x19#8 (.val (remainingElims s.cat))) t ∧ t.cer.rank = []
      ∧ t.cer.press = s.cer.press ++ [v] ∧ (t.cer.s : Int) = remainingElims s.cat
      ∧ t.cer.elims = s.cer.elims + t.cer.s := by
  have hloop := loopInv_of_active h ha
  have hread := runLoop_read (left := safetyBound s.cer) (s := { s with cer := { s.cer with s := 0 } }) hm hsrc hq
  obtain ⟨t, hrun, ⟨-, hpress, -, helims, htotal⟩, hrank, hnone⟩ := (hloop.read hm v q).runLoop_outlasts hm
    (left := safetyBound s.cer) hloop.inRun.remainingElims_lt (by simpa [tookPress] using hv)
  have hs : (t.cer.s : Int) = remainingElims s.cat := by
    rw [hnone] at htotal
    simpa [tookPress] using htotal
  rw [hs] at hrun
  exact ⟨t, hread.trans hrun, hrank, hpress, hs, helims⟩

/-- Settles O55: press value 0 hits the least cell, one that cannot be read fails the run at its start, and one beyond all
eliminations at empty rankings. -/
theorem decodingRunHitsAtOnce : Obligations.DecodingRunHitsAtOnce := by
  intro s hinv ha hm failsAtFirst
  have hfails {err : Err} (h : ∀ rank, nextPress { s with cer := { s.cer with rank := rank, s := 0 } } = .error err) :
      failsAtFirst err :=
    exec_cerRun_raised ha (runLoop_unread (s := { s with cer := { s.cer with s := 0 } }) hm h)
  refine ⟨fun hsrc => ⟨fun e ranks q hq hr => ?hit, fun hq => ?empty, fun p q hq hp => ?negative,
    fun p q hq hp => ?beyond⟩, fun c hsrc hid hbound hb => ?bits⟩
  case hit => exact ⟨_, exec_cerRun_done ha (run_hits hinv ha hm hsrc hq hr), rfl, rfl, rfl, rfl, rfl, rfl, rfl⟩
  case empty => exact hfails fun _ => nextPress_sin_empty hsrc hq
  case negative => exact hfails fun _ => nextPress_sin_negative hsrc hq hp
  case beyond =>
    have hpos := remainingElims_nonneg hinv.sound.cat
    obtain ⟨v, rfl⟩ := Int.eq_ofNat_of_zero_le (show 0 ≤ p by omega)
    obtain ⟨t, hrun, hrank, hpress, hs, helims⟩ := run_outlasts hinv ha hm hsrc hq hp
    exact ⟨t.spl, t.cat, { t.cer with phase := .failed }, exec_cerRun_raised ha hrun, rfl, hrank, hpress, hs, helims⟩
  case bits => exact hfails fun _ => nextPress_bin_empty hsrc hid hbound hb

end Sys2Proof.Machine
end

section
/-! CER.DECBLK of a two-sample block, and how the header of a block format is refused (45_cer.md R298, R304, R306). -/

namespace Sys2Proof.Machine

/-! A block of two samples. -/

/-- Press value 0 has a codeword of every run codec. -/
theorem hasCodeword_zero {c : Codec} {m : Nat} (hm : isIota c = true → 3 ≤ m) : HasCodeword c m .unsigned (0 : Nat) := by
  refine ⟨hm, fun _ => le_rfl, ?_⟩
  cases c with
  | giota =>
    have hbound : (1 : Int) ≤ m := by have := hm rfl; omega
    exact decide_eq_true ⟨le_rfl, hbound, Nat.two_pow_pos _⟩
  | diota =>
    have hbound : (1 : Int) ≤ m := by have := hm rfl; omega
    exact decide_eq_true ⟨le_rfl, hbound⟩
  | _ => rfl

/-- A run in decode with no column unresolved is the final one, if its press value is 0. -/
theorem run_final_of_no_rank {s t : State} (hm : s.cer.mode = .decode) (hr : s.cer.rank = []) (hs : s.cer.s = 0)
    (hp : nextPress s = .ok (0, t)) (ht : t.cer.s = 0) :
    run s = .done (countRun { t with cer := { t.cer with phase := .done } }) true := by
  have hself : { s with cer := { s.cer with s := 0 } } = s := by rw [← hs]
  rw [run, hself, runLoop_final hr, finalRun_decode (p := none) hm hp, if_pos ht.symm]

/-- With two samples both columns are resolved from the start: nothing is ranked. -/
theorem blockInit_two (mode : Mode) (psrc : PressSrc) (v : Nat) (cfg : Word) (plain : List (Option Int)) (v0 v1 : Int)
    (s : State) : blockInit mode psrc 2 v cfg plain v0 v1 s = newBlock mode psrc 2 v cfg plain v0 v1 s := rfl

/-- The only run of a two-sample block that reads press value 0 from BIN. -/
theorem runBlock_two {c : Codec} {v : Nat} {cfg : Word} {v0 v1 : Int} {s : State} {rest : Bits}
    (hid : rcidField s.cfgCodec = c.id) (hm : isIota c = true → 3 ≤ zext s.cfgIotaMax)
    (hb : s.bin = codeword c (zext s.cfgIotaMax) .unsigned (0 : Nat) ++ rest) :
    runBlock (blockInit .decode .bin 2 v cfg (decodePlain 2 v0 v1) v0 v1 s) = .done { s with
      bin := rest
      spl := freshSpline 2 v cfg s.cfgCache v0 v1
      cat := { valid := true, n := 2, v := v, cols := [resolvedColumn v0, resolvedColumn v1] }
      cer := { blockCer .decode .bin 2 v cfg [some v0, some v1] s with phase := .done, press := [0], runIndex := 1 } }
      true := by
  have hpress : nextPress (newBlock .decode .bin 2 v cfg (decodePlain 2 v0 v1) v0 v1 s) = _ :=
    nextPress_bin rfl hid (hasCodeword_zero hm) hb
  rw [blockInit_two]
  exact runUntilFinal_final _ (run_final_of_no_rank rfl rfl rfl hpress rfl)

/-! The header refused. -/

section
variable {n v : Nat} (hn : 1 ≤ n) (hv : 1 ≤ v) (b : Bits)
include hn hv

theorem readHeader_badN (h : ¬(2 ≤ n ∧ n ≤ Config.nMax)) :
    readHeader (encGamma n ++ (encGamma v ++ b)) = .error (parseErr 0x1A#8 (.val n)) := by
  refine (bind_of_ok (readGammaField_encGamma hn _) _).trans ((bind_of_ok (readGammaField_encGamma hv _) _).trans ?_)
  exact bind_of_error (require_neg h _) _

theorem readHeader_badV (h : 2 ≤ n ∧ n ≤ Config.nMax) (h' : ¬(2 ≤ v ∧ v ≤ Config.vMax)) :
    readHeader (encGamma n ++ (encGamma v ++ b)) = .error (parseErr 0x1A#8 (.val v)) := by
  refine (bind_of_ok (readGammaField_encGamma hn _) _).trans ((bind_of_ok (readGammaField_encGamma hv _) _).trans ?_)
  exact (bind_of_ok (require_pos h _) _).trans (bind_of_error (require_neg h' _) _)

end

section
variable {n v id : Nat} (hg : GeometryOk n v) (hid : id < 16)
include hg hid

theorem readHeader_badMethod (b : Bits) (h : 5 < id) :
    readHeader (encGamma n ++ (encGamma v ++ (binMsb 4 id ++ b))) = .error (parseErr 0x18#8 (.val id)) := by
  obtain ⟨hn, hn', hv, hv'⟩ := hg
  refine (bind_of_ok (readGammaField_encGamma (by omega) _) _).trans ?_
  refine (bind_of_ok (readGammaField_encGamma (by omega) _) _).trans ?_
  refine (bind_of_ok (require_pos ⟨hn, hn'⟩ _) _).trans ((bind_of_ok (require_pos ⟨hv, hv'⟩ _) _).trans ?_)
  exact (bind_of_ok (readRawField_binMsb hid _) _).trans (bind_of_error (require_neg (not_le.mpr h) _) _)

/-- With both endpoints read, an error of the header is one of their two checks. -/
theorem readHeader_badEndpoint {v0 v1 : Nat} {e : Err} (b : Bits) (h : id ≤ 5) (h0 : v0 < 2 ^ Nat.clog 2 v)
    (h1 : v1 < 2 ^ Nat.clog 2 v)
    (hbad : v ≤ v0 ∧ e = parseErr 0x1B#8 (.val v0) ∨ v0 < v ∧ v ≤ v1 ∧ e = parseErr 0x1B#8 (.val v1)) :
    readHeader (encGamma n ++ (encGamma v ++ (binMsb 4 id
      ++ (binMsb (Nat.clog 2 v) v0 ++ (binMsb (Nat.clog 2 v) v1 ++ b))))) = .error e := by
  obtain ⟨hn, hn', hv, hv'⟩ := hg
  have hclog : ceilLog2 v = Nat.clog 2 v := ceilLog2_eq_clog (by omega)
  refine (bind_of_ok (readGammaField_encGamma (by omega) _) _).trans ?_
  refine (bind_of_ok (readGammaField_encGamma (by omega) _) _).trans ?_
  refine (bind_of_ok (require_pos ⟨hn, hn'⟩ _) _).trans ((bind_of_ok (require_pos ⟨hv, hv'⟩ _) _).trans ?_)
  refine (bind_of_ok (readRawField_binMsb hid _) _).trans ((bind_of_ok (require_pos h _) _).trans ?_)
  simp only [hclog]
  refine (bind_of_ok (readRawField_binMsb h0 _) _).trans ((bind_of_ok (readRawField_binMsb h1 _) _).trans ?_)
  obtain ⟨hlow, rfl⟩ | ⟨hlow, hhigh, rfl⟩ := hbad
  · exact bind_of_error (require_neg (not_lt.mpr hlow) _) _
  · exact (bind_of_ok (require_pos hlow _) _).trans (bind_of_error (require_neg (not_lt.mpr hhigh) _) _)

end

theorem exec_cerDecblk_refused {s : State} {e : Err} (h : readHeader s.bin = .error e) :
    exec .cerDecblk s = .next (raiseError e s) := by
  have hbegin : beginDecblk s = .error e := bind_of_error h _
  show execCerDecblk s = _
  simp only [execCerDecblk, hbegin]

/-! The command. -/

/-- CER.DECBLK of a two-sample block with press value 0. -/
theorem exec_cerDecblk_two {s : State} {c : Codec} {v method v0 v1 : Nat} {bits rest : Bits} (hg : GeometryOk 2 v)
    (hmethod : method ≤ 5) (h0 : v0 < v) (h1 : v1 < v) (hm : MethodOk (withMethod s.cfgMethod method))
    (hl : locpolField s.cfgCache ≤ 2) (hid : rcidField s.cfgCodec = c.id)
    (hbound : isIota c = true → 3 ≤ zext s.cfgIotaMax) (hfit : Pushable s [(v0 : Int), v1])
    (hbits : bits = encGamma 2 ++ encGamma v ++ binMsb 4 method ++ binMsb (Nat.clog 2 v) v0 ++ binMsb (Nat.clog 2 v) v1
      ++ codeword c (zext s.cfgIotaMax) .unsigned (0 : Nat))
    (hbin : s.bin = bits ++ rest) :
    exec .cerDecblk s = .next (complete { s with
      bin := rest
      sout := s.sout ++ [(v0 : Int), v1]
      res0 := 2#32
      res1 := BitVec.ofNat 32 bits.length
      spl := freshSpline 2 v (withMethod s.cfgMethod method) s.cfgCache v0 v1
      cat := { valid := true, n := 2, v := v, cols := [resolvedColumn v0, resolvedColumn v1] }
      cer := { blockCer .decode .bin 2 v (withMethod s.cfgMethod method) [some (v0 : Int), some (v1 : Int)] s with
        phase := .done, press := [0], runIndex := 1 } }) := by
  have hcodec : cerCheckCodec (rcidField s.cfgCodec) (zext s.cfgIotaMax) = .ok c := by
    rw [cerCheckCodec_of_id hid, bind_of_ok (requireBound_pass hbound)]
  have hlen : s.bin.length - rest.length = bits.length := by rw [hbin, List.length_append, Nat.add_sub_cancel]
  have hread := readHeader_reads hg hmethod h0 h1 (codeword c (zext s.cfgIotaMax) .unsigned (0 : Nat) ++ rest)
  simp only [← List.append_assoc] at hread
  rw [← hbits, ← hbin] at hread
  have hrun := runBlock_two (v := v) (cfg := withMethod s.cfgMethod method) (v0 := v0) (v1 := v1) (rest := rest)
    (s := { s with bin := codeword c (zext s.cfgIotaMax) .unsigned (0 : Nat) ++ rest }) hid hbound rfl
  rw [← hlen]
  exact exec_cerDecblk_done (beginDecblk_eq hread hg hm hl hcodec) hrun hfit.seqPushAll_eq

/-- Settles O59: the header is read and its block is over after the one press value; a header is refused by its first check
that fails. -/
theorem decodeTwoSampleBlock : Obligations.DecodeTwoSampleBlock := by
  constructor
  · intro s c v method v0 v1 rest hg hmethod h0 h1 hm hl hid hbound hfit bits hbin
    exact ⟨_, exec_cerDecblk_two hg hmethod h0 h1 hm hl hid hbound hfit rfl hbin, rfl, rfl, rfl, rfl,
      freshSpline_ok s.cfgCache hg hm (by omega) (by omega)⟩
  · intro s n v body hn hv hbin refused
    have hrefused {sub : BitVec 8} {info : Nat}
        (h : readHeader (encGamma n ++ (encGamma v ++ body)) = .error (parseErr sub (.val info))) : refused sub info :=
      exec_cerDecblk_refused (by rwa [hbin, List.append_assoc])
    refine ⟨fun hbad => hrefused (readHeader_badN hn hv body ?_),
      fun hlow hhigh hbad => hrefused (readHeader_badV hn hv body ⟨hlow, hhigh⟩ ?_), fun hg id ends hid hbody => ?_⟩
    · unfold Config.nMax
      omega
    · unfold Config.vMax
      omega
    · subst hbody
      refine ⟨fun h => hrefused (readHeader_badMethod hg hid ends h), fun v0 v1 rest hok h0 h1 hends => ?_⟩
      subst hends
      rw [List.append_assoc] at hrefused
      exact ⟨fun hlow => hrefused (readHeader_badEndpoint hg hid rest hok h0 h1 (.inl ⟨hlow, rfl⟩)),
        fun hlow hhigh => hrefused (readHeader_badEndpoint hg hid rest hok h0 h1 (.inr ⟨hlow, hhigh, rfl⟩))⟩

end Sys2Proof.Machine
end

section
/-! Only CAT.CLAMP signals NoChange: every other command leaves STATUS to its end, which is no NoChange. -/

namespace Sys2Proof.Machine

/-! Bodies and STATUS. -/

/-- A command body that answers a state leaves STATUS as it was. -/
def KeepsStatus (s : State) (r : Except Err State) : Prop := ∀ t, r = .ok t → t.status = s.status

theorem KeepsStatus.pure {s u : State} (h : u.status = s.status) : KeepsStatus s (.ok u) := by
  intro t ht
  cases ht
  exact h

theorem KeepsStatus.bind {α : Type} {s : State} {x : Except Err α} {k : α → Except Err State}
    (h : ∀ a, KeepsStatus s (k a)) : KeepsStatus s (x >>= k) := by
  intro t ht
  obtain ⟨a, -, ht⟩ := (except_bind_ok _ _ _).mp ht
  exact h a t ht

theorem BodyStreamWork.keepsStatus {s : State} {r : Except Err State} (h : BodyStreamWork s r) : KeepsStatus s r :=
  fun t ht => (h t ht).framed.report.1

theorem xfSeq_keepsStatus (f : List Int → List Int → Except Err (List Int)) (s : State) :
    KeepsStatus s (xfSeq f s) := .bind fun _ => .pure rfl

theorem catImpose_keepsStatus (g : Column → Column) (s : State) : KeepsStatus s (catImpose g s) :=
  .bind fun _ => .bind fun _ => .bind fun _ => .pure rfl

/-! Ends that are no NoChange. -/

/-- The outcome shows NOCHG = 1 only if the command found it so (60_exceptions.md R323: no NoChange was signalled). -/
def Silent (s : State) (o : Host.Outcome State Fault Refusal) : Prop :=
  ∀ t, o = .next t → t.status.nochg = true → s.status.nochg = true

theorem Silent.complete {s u : State} (h : u.status = s.status) : Silent s (.next (complete u)) := by
  intro t ht hn
  cases ht
  rwa [complete_status, statusDone_nochg, h] at hn

theorem Silent.raise {s : State} (e : Err) (u : State) : Silent s (.next (raiseError e u)) := by
  intro t ht hn
  cases ht
  cases hn

theorem KeepsStatus.silent {s : State} {r : Except Err State} (h : KeepsStatus s r) : Silent s (endCommand s r) := by
  obtain ⟨t, hok, he⟩ | ⟨e, -, he⟩ := endCommand_cases s r
  · exact he ▸ .complete (h t hok)
  · exact he ▸ .raise e s

/-! Commands with a branching body or an end of their own. -/

theorem execCtlSreset_silent (s : State) : Silent s (execCtlSreset s) := by
  intro t ht hn
  cases ht
  cases hn

theorem execCerInit_silent (s : State) : Silent s (execCerInit s) := by
  refine KeepsStatus.silent <| .bind fun _ t ht => ?_
  split at ht
  · exact (beginDecode_begun ht).framed.report.1
  · exact (beginEncode_begun ht).framed.report.1

theorem execSplBone_silent (s : State) : Silent s (execSplBone s) := by
  refine KeepsStatus.silent <| .bind fun _ => ?_
  cases boneAt s.spl.bones (zext s.arg0) with
  | none => exact .pure rfl
  | some y => exact .pure rfl

theorem execSplPredall_silent (s : State) : Silent s (execSplPredall s) := by
  unfold execSplPredall
  split
  · exact .raise _ _
  · split
    · exact .raise _ _
    · exact .complete rfl

theorem whenActive_framed {runs : State → RunEnd} {s : State} (h : Framed s (runs s).state) :
    Framed s (whenActive runs s).state := by
  unfold whenActive
  split
  · exact .refl s
  · exact h

section
variable {s : State} {r : RunEnd} (h : Framed s r.state)
include h

theorem endRun_silent : Silent s (endRun s r) := by
  cases r with
  | raised e t => exact .raise _ _
  | done t final => exact .complete h.report.1

theorem endBlock_silent : Silent s (endBlock s r) := by
  cases r with
  | raised e t => exact .raise _ _
  | done t final => exact .complete h.report.1

theorem endEncblk_silent (c : Codec) : Silent s (endEncblk c s r) := by
  cases r with
  | raised e t => exact .raise _ _
  | done t final =>
    unfold endEncblk
    dsimp only
    split
    · exact .raise _ _
    · exact .complete h.report.1

theorem endDecblk_silent : Silent s (endDecblk s r) := by
  cases r with
  | raised e t => exact .raise _ _
  | done t final =>
    unfold endDecblk
    dsimp only
    split
    · exact .raise _ _
    · exact .complete h.report.1

end

theorem execCerRun_silent (s : State) : Silent s (execCerRun s) := endRun_silent (whenActive_framed (run_framed s))

theorem execCerBlock_silent (s : State) : Silent s (execCerBlock s) :=
  endBlock_silent (whenActive_framed (runUntilFinal_framed _ s))

theorem execCerEncblk_silent (s : State) : Silent s (execCerEncblk s) := by
  unfold execCerEncblk
  split
  · exact .raise _ _
  · rename_i c t hb
    exact endEncblk_silent (beginEncblk_begun hb).runBlock.framed c

theorem execCerDecblk_silent (s : State) : Silent s (execCerDecblk s) := by
  unfold execCerDecblk
  split
  · exact .raise _ _
  · rename_i t hb
    exact endDecblk_silent (beginDecblk_begun hb).runBlock.framed

/-! Dispatch. -/

/-- Every command but CAT.CLAMP, by the shape of its body or by its own end. -/
theorem exec_silent {i : Instr} (hi : i ≠ .catClamp) (s : State) : Silent s (exec i s) := by
  cases i with
  | catClamp => exact absurd rfl hi
  | ctlSreset => exact execCtlSreset_silent s
  | splPredall => exact execSplPredall_silent s
  | splBone => exact execSplBone_silent s
  | cerInit => exact execCerInit_silent s
  | cerRun => exact execCerRun_silent s
  | cerBlock => exact execCerBlock_silent s
  | cerEncblk => exact execCerEncblk_silent s
  | cerDecblk => exact execCerDecblk_silent s
  | encUnary d | encGamma d | encDelta d | encFib d | encTrib d | encEnb4 d | encEnb5 d | encEnb6 d | encEnb7 d
  | encEnb8 d | encGfib d | encDfib d | encGiota d | encDiota d => exact (ucEnc_streamWork _ d s).keepsStatus.silent
  | decUnary d | decGamma d | decDelta d | decFib d | decTrib d | decEnb4 d | decEnb5 d | decEnb6 d | decEnb7 d
  | decEnb8 d | decGfib d | decDfib d | decGiota d | decDiota d => exact (ucDec_streamWork _ d s).keepsStatus.silent
  | encseqUnary d | encseqGamma d | encseqDelta d | encseqFib d | encseqTrib d | encseqEnb4 d | encseqEnb5 d
  | encseqEnb6 d | encseqEnb7 d | encseqEnb8 d | encseqGfib d | encseqDfib d | encseqGiota d | encseqDiota d =>
    exact (ucEncSeq_streamWork _ d s).keepsStatus.silent
  | decseqUnary d | decseqGamma d | decseqDelta d | decseqFib d | decseqTrib d | decseqEnb4 d | decseqEnb5 d
  | decseqEnb6 d | decseqEnb7 d | decseqEnb8 d | decseqGfib d | decseqDfib d | decseqGiota d | decseqDiota d =>
    exact (ucDecSeq_streamWork _ d s).keepsStatus.silent
  | xfHaveneUnary | xfHaveneGamma | xfHaveneDelta | xfHaveneFib | xfHaveneTrib | xfHaveneEnb4 | xfHaveneEnb5
  | xfHaveneEnb6 | xfHaveneEnb7 | xfHaveneEnb8 | xfHaveneGfib | xfHaveneDfib | xfHaveneGiota | xfHaveneDiota =>
    exact (havenEnc_streamWork _ s).keepsStatus.silent
  | xfHavendUnary | xfHavendGamma | xfHavendDelta | xfHavendFib | xfHavendTrib | xfHavendEnb4 | xfHavendEnb5
  | xfHavendEnb6 | xfHavendEnb7 | xfHavendEnb8 | xfHavendGfib | xfHavendDfib | xfHavendGiota | xfHavendDiota =>
    exact (havenDec_streamWork _ s).keepsStatus.silent
  | xfDeltae | xfDeltad | xfZze | xfZzd | xfRulere | xfRulerd | xfPale | xfPald | xfFlre | xfFlrd | xfMede | xfMedd =>
    exact (xfSeq_keepsStatus _ s).silent
  | xfFzze | xfFzzd => exact (xfFocused_streamWork _ s).keepsStatus.silent
  | catImpmin | catImpmax => exact (catImpose_keepsStatus _ s).silent
  | ctlNop | ctlCinv => exact (KeepsStatus.pure rfl).silent
  | ctlFlush | xfTsume | xfTsumd | catCount | catStatus | catLimits | splPred | cerFill | cerPress | cerPlain =>
    exact KeepsStatus.silent <| .bind fun _ => .pure rfl
  | catInit | catExtreme | splSurr | cerScore => exact KeepsStatus.silent <| .bind fun _ => .bind fun _ => .pure rfl
  | catElim | catElimcol | splSet =>
    exact KeepsStatus.silent <| .bind fun _ => .bind fun _ => .bind fun _ => .pure rfl
  | splInit =>
    exact KeepsStatus.silent <|
      .bind fun _ => .bind fun _ => .bind fun _ => .bind fun _ => .bind fun _ => .pure rfl

/-! CAT.CLAMP. -/

/-- CAT.CLAMP signals NoChange on the one path where y is strictly inside the limits (43_catalogue.md R228). -/
theorem exec_catClamp_noChange {s t : State} (h : exec .catClamp s = .next t) (hs : s.status.nochg = false)
    (hn : t.status.nochg = true) :
    t = completeNoChange { s with res0 := s.arg1 } ∧ (columnAt s.cat (zext s.arg0)).lo < s.arg1.toInt
      ∧ s.arg1.toInt < (columnAt s.cat (zext s.arg0)).hi := by
  cases hcheck : catCheckX s (zext s.arg0) with
  | error e =>
    have he : exec .catClamp s = .next (raiseError e s) := by
      show execCatClamp s = _
      rw [execCatClamp, hcheck]
    cases he.symm.trans h
    cases hn
  | ok =>
    rw [exec_catClamp_ok hcheck rfl] at h
    split at h
    · cases h
      cases hs.symm.trans hn
    · rename_i hlo
      split at h
      · cases h
        cases hs.symm.trans hn
      · rename_i hhi
        cases h
        exact ⟨rfl, not_le.mp hlo, not_le.mp hhi⟩

/-- Settles O13: every other command is silent, and CAT.CLAMP signals on one path, whose end writes RES0, SEQ and STATUS
only. -/
theorem onlyClampSignalsNoChange : Obligations.OnlyClampSignalsNoChange := by
  intro i s t hs h hn
  obtain ⟨-, -, -, hnochg, herr⟩ := hs
  by_cases hi : i = .catClamp
  · subst hi
    obtain ⟨rfl, hlo, hhi⟩ := exec_catClamp_noChange h hnochg hn
    exact ⟨rfl, rfl, herr, rfl, rfl, rfl, rfl, rfl, hlo, hhi⟩
  · cases hnochg.symm.trans (exec_silent hi s t h hn)

end Sys2Proof.Machine
end

section
/-! Reset and hazards: the values and the invariants at reset, and the accesses that land while a command runs
(70_reset_and_hazards.md R350, R360). -/

namespace Sys2Proof.Machine

/-! Single accesses of a BUSY block. -/

theorem hostRead_busy {s : State} {off : BitVec 8} {w : Nat} {r : Reg} (hs : s.seq = .busy)
    (ha : accessOk off w = true) (hr : regAt off.toNat = some r) : hostAccess (.read off w) s = readBusy r s := by
  simp [hostAccess, hostRead, ha, hr, hs]

/-- A write of CMD, an ARG, a CFG register or a push port is turned away while a command runs. -/
theorem hostWrite_busy_overrun {s : State} {off : BitVec 8} {w : Nat} {r : Reg} (v : Word) (hs : s.seq = .busy)
    (ha : accessOk off w = true) (hr : regAt off.toNat = some r) (ho : overrunsOnWrite r = true) :
    hostAccess (.write off w v) s = overrun s := by
  simp [hostAccess, hostWrite, ha, hr, hs, writeBusy, ho]

/-- The step performs an early access whatever the sequencer does. -/
theorem step_of_early {s : State} {a : HostAccess} {rest : List HostEvent}
    (hh : s.host = { early := true, access := a } :: rest) :
    step s = .next (hostAccess a { s with host := rest }) :=
  step_of_actsNext ⟨true, hh, .inr rfl⟩

/-- At the offsets of CMD, the ARGs, the CFG registers and the push ports stand registers whose write overruns. -/
theorem regAt_overruns : ∀ off ∈ [0x00#8, 0x20#8, 0x24#8, 0x28#8, 0x2C#8, 0x40#8, 0x44#8, 0x48#8, 0x4C#8, 0x50#8, 0x54#8,
    0x58#8, 0x60#8, 0x70#8], accessOk off 4 = true ∧ ∃ r, regAt off.toNat = some r ∧ overrunsOnWrite r = true := by
  simp only [← Option.any_eq_true]
  decide

/-- Settles O20: an early access acts at the step, by the arm of the busy window that its offset selects. -/
theorem busyHazard : Obligations.BusyHazard := by
  intro s rest v hs
  have hs' : ({ s with host := rest } : State).seq = .busy := hs
  refine ⟨fun off hoff hh => ?_, fun off hoff hh => ?_, fun hh => ?_, fun hh => ?_, fun hh => ?_⟩ <;>
    rw [step_of_early hh]
  · obtain ⟨ha, r, hr, ho⟩ := regAt_overruns off hoff
    rw [hostWrite_busy_overrun v hs' ha hr ho]
    rfl
  · simp only [List.mem_cons, List.not_mem_nil, or_false] at hoff
    obtain rfl | rfl := hoff
    · rw [hostRead_busy (r := .boutPop) hs' rfl rfl]
      rfl
    · rw [hostRead_busy (r := .soutPop) hs' rfl rfl]
      rfl
  · rw [hostWrite_either (r := .status) v _ rfl rfl rfl]
    rfl
  · rw [hostRead_busy (r := .status) hs' rfl rfl]
    rfl
  · rw [hostRead_busy (r := .id) hs' rfl rfl]
    rfl

/-! At reset. -/

/-- Settles O7: every register and every structure is a field of `State.reset`, STATUS the word of its cleared flags. -/
theorem resetValues : Obligations.ResetValues := by
  unfold Obligations.ResetValues
  and_intros <;> rfl

theorem statusOk_reset : StatusOk State.reset := ⟨⟨nofun, nofun⟩, nofun, nofun, nofun⟩

theorem streamsOk_reset : StreamsOk State.reset :=
  (streamsOk_iff _).mpr ⟨bitsFit_nil, bitsFit_nil, seqFit_nil, seqFit_nil⟩

/-- No Spline is initialised at reset, so nothing is cached. -/
theorem cacheValuesOk_reset : CacheValuesOk State.reset.spl := nofun

/-- Settles O24: by the reset values, one invariant at a time. -/
theorem invariantsAtReset : Obligations.InvariantsAtReset :=
  ⟨statusOk_reset, reservedZero_reset, streamsOk_reset, blockInv_of_reset rfl rfl rfl, cacheValuesOk_reset⟩

end Sys2Proof.Machine
end
